-- ==== Sys2Proof/Word.lean ====
section
/-! DEFINITION. The word types of the core, the wire unit, and the two error kinds the codecs and the transport raise. -/

namespace Sys2Proof

/-- A byte: 8 bits, bit 7 the most significant (R11). -/
abbrev Byte := BitVec 8

/-- `u16` (R11): a word as exchanged with the sensor. -/
abbrev U16 := BitVec 16

/-- `u32` (R11): here always a binary32 bit pattern. -/
abbrev U32 := BitVec 32

/-- Format WU (R70): the three bytes of a wire unit, `b0` first on the wire, `b2` the CRC byte. -/
structure WireUnit where
  b0 : Byte
  b1 : Byte
  b2 : Byte
  deriving DecidableEq, Repr

/-- The two error kinds a command or a primitive can return (R170): ProtocolAnomaly is no error (R173). -/
inductive CoreError where
  /-- R171, R106: `expected` is the checksum the core recomputed, `actual` the third byte as received. -/
  | crcMismatch (expected actual : Byte)
  /-- R172, R66: raised by the transport; carries no field. -/
  | ioError
  deriving DecidableEq, Repr

end Sys2Proof
end

