-- ==== Sys2Proof/Config.lean ====
section
/-! DEFINITION. What an instance fixes (R7) and the free values: everything the spec leaves open, as constants with no body. -/

namespace Sys2Proof.Config

/-- P_ADDR (R7): "fixed 0x61 for SCD30". -/
abbrev addr : BitVec 7 := 0x61#7

/-- P_INTERVAL's default in seconds (R7). -/
abbrev defaultInterval : U16 := 10#16

/-- P_PRESSURE's default in millibars (R7). -/
abbrev defaultPressure : U16 := 1013#16

/-- DESIGN CHOICE (log entry 10, unsafe): P_POLL_ELAPSED "has no default and must be supplied" (R40).
`State.reset` is launched with the configuration of 95_test_vectors.md section 2.5; every statement is about all values. -/
abbrev resetPollElapsed : U16 := 10#16

/-- CRC_POLY (R90). -/
abbrev crcPoly : Byte := 0x31#8

/-- CRC_SEED (R90). -/
abbrev crcSeed : Byte := 0xFF#8

/-- Free value (R51, R52, U7; log entry 1): whether the transport answers the write of draw `n` with ok. -/
opaque transportWriteOk : Nat → Bool

/-- Free value (R52, U7; log entry 1): the bytes the transport returns to the read of draw `n`; `none` is IoError.
Bytes of another length than asked for are IoError too (R52). -/
opaque transportRead : Nat → Option (List Byte)

/-- Free value (R34, U16; log entry 13): fn_out of a response whose fn_ok is 0. -/
opaque freeFnOut : Nat → U32

/-- Free value (R34, U16; log entry 13): fn_expected of a response that carries no CrcMismatch. -/
opaque freeFnExpected : Nat → Byte

/-- Free value (R34, U16; log entry 13): fn_actual of a response that carries no CrcMismatch. -/
opaque freeFnActual : Nat → Byte

/-- Free value (R32; log entry 11): CRC after an operation has ended, or while it is blocked. -/
opaque freeCrc : Nat → Byte

/-- Free value (R32; log entry 11): TXBUF after an operation has ended, or while it is blocked. -/
opaque freeTxbuf : Nat → List Byte

/-- Free value (R32; log entry 11): RXBUF after an operation has ended, or while it is blocked. -/
opaque freeRxbuf : Nat → List Byte

/-- Free value (U20; log entry 12): what host read number `n` answers for a register that holds no value. -/
opaque unwritten : Nat → U32

end Sys2Proof.Config
end

