-- ==== Sys2Proof/Syntax.lean ====
section
/-! DEFINITION. The nineteen operations (R9), one constructor per row of spec/opcode_table.json, with their operands; the containers an
operation is presented in (R34, R72, R79); the eight codes of STATE (R25, R79). -/

namespace Sys2Proof

/-- An operation of the core with its operands. -/
inductive Instr where
  /-- FSEL 0 (R93). -/
  | crc8 (b0 b1 : Byte)
  /-- FSEL 1 (R102). -/
  | packWord (value : U16)
  /-- FSEL 2 (R103). -/
  | unpackWord (unit : WireUnit)
  /-- FSEL 3 (R104). -/
  | unpackBytes (unit : WireUnit)
  /-- FSEL 4 (R111). -/
  | unpackFloat (high low : WireUnit)
  /-- Frame `02 02` (R123). -/
  | getReady
  /-- Frame `46 00` (R124). -/
  | getInterval
  /-- Frame `46 00` + wire unit (R125): the table's fields `a` (the argument) and `c` (the frame's CRC byte). -/
  | setInterval (a : U16) (c : Byte)
  /-- Frame `54 03` (R126). -/
  | getTempOffset
  /-- Frame `00 10` + wire unit (R127): the table's fields `a` and `c`. -/
  | triggerCont (a : U16) (c : Byte)
  /-- Frame `03 00` (R128). -/
  | readMeas
  /-- STATE 0 (R144). -/
  | checkingReady
  /-- STATE 1 (R147). -/
  | reading
  /-- STATE 2 (R145). -/
  | waiting
  /-- STATE 3 (R146). -/
  | stalled
  /-- STATE 4 (R141). -/
  | initInterval
  /-- STATE 5 (R142). -/
  | initSet
  /-- STATE 6 (R143). -/
  | initOffset
  /-- STATE 7 (R148). -/
  | halted
  deriving DecidableEq, Repr

/-- What selects an operation and carries its operands, one alternative per format of the opcode table. -/
inductive Container where
  /-- Format FN (R34): fn_sel and fn_in. -/
  | fn (sel : BitVec 3) (inp : BitVec 48)
  /-- Formats CMD2 and CMD5 (R72): the bytes of a write frame, first byte on the wire first. -/
  | frame (bytes : List Byte)
  /-- Format STATE (R79): the value of STATE. -/
  | state (code : BitVec 3)
  deriving DecidableEq, Repr

namespace Code

/-- The codes of STATE (R25). -/
abbrev checkingReady : BitVec 3 := 0#3
/-- R25. -/
abbrev reading : BitVec 3 := 1#3
/-- R25. -/
abbrev waiting : BitVec 3 := 2#3
/-- R25. -/
abbrev stalled : BitVec 3 := 3#3
/-- R25; the reset state (R40). -/
abbrev initInterval : BitVec 3 := 4#3
/-- R25. -/
abbrev initSet : BitVec 3 := 5#3
/-- R25. -/
abbrev initOffset : BitVec 3 := 6#3
/-- R25. -/
abbrev halted : BitVec 3 := 7#3

end Code

end Sys2Proof
end

