-- ==== Sys2Proof/Machine/State.lean ====
section
/-! DEFINITION. The state of the machine: the sixteen registers of R20, the operation-local storage of R32, what stands on the five ports
(R33 to R37), the event history (R63), and three fields of the model's own; the two ways a step can stop; the state after reset (R40). -/

namespace Sys2Proof.Machine

/-- What the configuration port carries (R33). -/
structure CfgPort where
  addr : BitVec 7
  interval : U16
  pressure : U16
  pollElapsed : U16
  deriving DecidableEq, Repr

/-- A request at the function port (R34). -/
structure FnRequest where
  sel : BitVec 3
  inp : BitVec 48
  deriving DecidableEq, Repr

/-- A response of the function port (R34). -/
structure FnResponse where
  ok : Bool
  out : U32
  expected : Byte
  actual : Byte
  deriving DecidableEq, Repr

/-- The transport's answer to a TrWrite (R51); `never` is the transaction that is never answered (R211, U9). -/
inductive WriteAnswer where
  | ok
  | ioError
  | never
  deriving DecidableEq, Repr

/-- The transport's answer to a TrRead (R52); `never` as for a write. -/
inductive ReadAnswer where
  | bytes (bs : List Byte)
  | ioError
  | never
  deriving DecidableEq, Repr

/-- A transaction the core has issued (R35): a TrWrite of these bytes, or a TrRead of `n` bytes. -/
inductive Transaction where
  | write (addr : BitVec 7) (bytes : List Byte)
  | read (addr : BitVec 7) (n : Nat)
  deriving DecidableEq, Repr

/-- A status record handed to the presentation port (R36, R170). -/
inductive Status where
  | crcMismatch (expected actual : Byte) (state : BitVec 3)
  | ioError (state : BitVec 3)
  | protocolAnomaly (value : U16)
  deriving DecidableEq, Repr

/-- An event of the core (R63): `W`, `R`, `MEAS`, `STATUS`. -/
inductive Event where
  /-- `W(addr, B) -> ok | IoError`. -/
  | write (addr : BitVec 7) (bytes : List Byte) (ok : Bool)
  /-- `R(addr, n) -> Ok(B) | IoError`; `none` is IoError. -/
  | read (addr : BitVec 7) (n : Nat) (answer : Option (List Byte))
  /-- `MEAS(co2, temperature, rh)` (R36). -/
  | meas (co2 t rh : U32)
  /-- `STATUS(..)` (R36). -/
  | status (record : Status)
  deriving DecidableEq, Repr

/-- What a command returned (R120): Ok of its result type, or Err. -/
inductive CmdResult where
  | done
  | word (v : U16)
  | meas (co2 t rh : U32)
  | err (e : CoreError)
  deriving DecidableEq, Repr

/-- Why the machine stops. -/
inductive Fault where
  /-- Raised by `step`, by no instruction, in a state that holds an unanswered transaction: "A model gives the core no step while a
  transaction is unanswered" (R211, U9, D26). Safe: nothing is claimed of what comes after; a reset is still taken (log entry 2). -/
  | transactionUnanswered
  deriving DecidableEq, Repr

/-- Why a request or a launch has no meaning. -/
inductive Refusal where
  /-- An operation not modelled yet, by its mnemonic. No arm of `exec` is left so. Safe. -/
  | notModelled (mnemonic : String)
  /-- Raised by the fetch of an FN request with FSEL 5, 6 or 7: "a model refuses such a request" (R80, U15). Safe. -/
  | reservedFnSelect
  /-- Raised by the fetch from the model's own command slot of a byte string that is none of the six frames of R75 (log entry 3). Safe. -/
  | unknownFrame
  /-- Raised by a launch with cfg_addr other than 0x61: "a model refuses it" (R21, U19, D31). Safe. -/
  | busAddressNotSupported
  /-- Raised by a launch with cfg_poll_elapsed = 0: "refused by a model" (R24, U2, D7). Safe. -/
  | pollElapsedZero
  deriving DecidableEq, Repr

/-- The state. A register that "holds no value" (R27, R28, R31, R40) is `none`. -/
structure State where
  /-- CFG_ADDR (R21). -/
  cfgAddr : BitVec 7
  /-- CFG_INTERVAL (R22). -/
  cfgInterval : U16
  /-- CFG_PRESSURE (R23). -/
  cfgPressure : U16
  /-- CFG_POLL_ELAPSED (R24). -/
  cfgPollElapsed : U16
  /-- STATE (R25), the core's program counter. -/
  state : BitVec 3
  /-- STALL (R26). -/
  stall : BitVec 17
  /-- DEV_INTERVAL (R27). -/
  devInterval : Option U16
  /-- TEMP_OFFSET (R28). -/
  tempOffset : Option U16
  /-- FLAGS (R29). -/
  flags : BitVec 4
  /-- ERR_KIND (R30). -/
  errKind : BitVec 2
  /-- ERR_EXPECTED (R30). -/
  errExpected : Byte
  /-- ERR_ACTUAL (R30). -/
  errActual : Byte
  /-- ERR_STATE (R30). -/
  errState : BitVec 3
  /-- MEAS_CO2 (R31). -/
  measCo2 : Option U32
  /-- MEAS_T (R31). -/
  measT : Option U32
  /-- MEAS_RH (R31). -/
  measRh : Option U32
  /-- CRC (R32), operation-local. -/
  crc : Byte
  /-- TXBUF (R32), operation-local. -/
  txbuf : List Byte
  /-- RXBUF (R32), operation-local. -/
  rxbuf : List Byte
  /-- The CFG port (R33). -/
  cfgPort : CfgPort
  /-- The RST input (R37): true while a reset waits to be taken. -/
  rst : Bool
  /-- Requests waiting at the FN port (R34), oldest first. How a request is signalled is OPEN (D2, U25): that any number may wait is a
  DESIGN CHOICE (log entry 28). -/
  fnQueue : List FnRequest
  /-- The last response of the FN port (R34). It stands until the next request is answered, or until a reset: DESIGN CHOICE, the
  signalling is OPEN (D2, U25; log entry 28). -/
  fnResp : Option FnResponse
  /-- Answers the transport will give to the next writes (R51), in order; free draws follow (log entry 1). -/
  trWrites : List WriteAnswer
  /-- Answers the transport will give to the next reads (R52), in order; free draws follow (log entry 1). -/
  trReads : List ReadAnswer
  /-- The transaction the core is blocked in (R51, R52, R60): one the transport never answers (R211; log entry 2). -/
  inFlight : Option Transaction
  /-- The event history (R63), oldest first. -/
  trace : List Event
  /-- The MODEL's own (log entry 3): a command frame presented to run by itself. No step fills it. -/
  cmdSlot : Option (List Byte)
  /-- The MODEL's own (log entry 4): what the last command run by itself returned. -/
  cmdResult : Option CmdResult
  /-- The MODEL's own (log entry 13): how many operations have drawn free values. -/
  draws : Nat
  deriving DecidableEq, Repr

/-- The machine right after reset (R40), launched with the defaults of R7 and `Config.resetPollElapsed`. CRC, TXBUF and RXBUF are
"unspecified" there: zero and empty by DESIGN CHOICE (log entry 11). -/
def State.reset : State where
  cfgAddr := Config.addr
  cfgInterval := Config.defaultInterval
  cfgPressure := Config.defaultPressure
  cfgPollElapsed := Config.resetPollElapsed
  state := Code.initInterval
  stall := 0#17
  devInterval := none
  tempOffset := none
  flags := 0#4
  errKind := 0#2
  errExpected := 0#8
  errActual := 0#8
  errState := 0#3
  measCo2 := none
  measT := none
  measRh := none
  crc := 0#8
  txbuf := []
  rxbuf := []
  cfgPort :=
    { addr := Config.addr, interval := Config.defaultInterval, pressure := Config.defaultPressure,
      pollElapsed := Config.resetPollElapsed }
  rst := false
  fnQueue := []
  fnResp := none
  trWrites := []
  trReads := []
  inFlight := none
  trace := []
  cmdSlot := none
  cmdResult := none
  draws := 0

end Sys2Proof.Machine
end

