-- ==== Sys2Proof/Machine/Flags.lean ====
section
/-! DEFINITION. FLAGS: its bit positions and the writing of one bit (R29). -/

namespace Sys2Proof.Machine

/-- FLAGS.READY is bit 0 (R29). -/
abbrev flagReady : Nat := 0
/-- FLAGS.ANOMALY is bit 1 (R29). -/
abbrev flagAnomaly : Nat := 1
/-- FLAGS.ERR is bit 2 (R29). -/
abbrev flagErr : Nat := 2
/-- FLAGS.FATAL is bit 3 (R29). -/
abbrev flagFatal : Nat := 3

/-- FLAGS with bit `b` written with `v`, the other bits kept. -/
def withFlag (f : BitVec 4) (b : Nat) (v : Bool) : BitVec 4 :=
  if v then f ||| (1#4 <<< b) else f &&& ~~~(1#4 <<< b)

/-- `FLAGS.<bit> <- v`. -/
def State.setFlag (s : State) (b : Nat) (v : Bool) : State := { s with flags := withFlag s.flags b v }

/-- The value of `FLAGS.<bit>`. -/
def State.flag (s : State) (b : Nat) : Bool := s.flags.getLsbD b

/-- The three-way classification of the data-ready word (R123, R144, R173): READY for 1, ANOMALY for anything but 0 and 1. -/
def State.setReadyFlags (s : State) (v : U16) : State :=
  (s.setFlag flagReady (v == 1#16)).setFlag flagAnomaly (v != 0#16 && v != 1#16)

end Sys2Proof.Machine
end

