-- ==== Sys2Proof/Machine/Codec.lean ====
section
/-! DEFINITION. The CRC-8 engine (R90 to R93), the word codec (R101 to R104) and the float codec (R111), as pure functions; the test-only
inverse PACK_FLOAT (R115). -/

namespace Sys2Proof.Machine

/-- CRC_SHIFT (R91): the test is on bit 7 before the shift; the bit shifted out is discarded. -/
def crcShift (c : Byte) : Byte :=
  if c.msb then (c <<< 1) ^^^ Config.crcPoly else c <<< 1

/-- `n` times CRC_SHIFT. -/
def crcShifts : Nat → Byte → Byte
  | 0, c => c
  | n + 1, c => crcShifts n (crcShift c)

/-- CRC_BYTE (R92): one exclusive-or with the whole byte, then eight shifts. -/
def crcByte (c b : Byte) : Byte := crcShifts 8 (c ^^^ b)

/-- CRC8 (R93): seed, byte 0, byte 1, no output inversion. Two bytes only (R98). -/
def crc8 (b0 b1 : Byte) : Byte := crcByte (crcByte Config.crcSeed b0) b1

/-- `v[15:8]` of a word (R74). -/
def hiByte (v : U16) : Byte := v.extractLsb' 8 8

/-- `v[7:0]` of a word (R74). -/
def loByte (v : U16) : Byte := v.extractLsb' 0 8

/-- CHECK (R101): all 8 bits compared, never skipped, never repaired; the fields of R106. -/
def checkUnit (u : WireUnit) : Except CoreError Unit :=
  if crc8 u.b0 u.b1 = u.b2 then .ok () else .error (.crcMismatch (crc8 u.b0 u.b1) u.b2)

/-- PACK_WORD (R102). -/
def packWord (v : U16) : WireUnit :=
  { b0 := hiByte v, b1 := loByte v, b2 := crc8 (hiByte v) (loByte v) }

/-- UNPACK_WORD (R103): the word, `b0` in the more significant position. -/
def unpackWord (u : WireUnit) : Except CoreError U16 :=
  match checkUnit u with
  | .error e => .error e
  | .ok _ => .ok (u.b0 ++ u.b1)

/-- UNPACK_BYTES (R104): the two raw bytes in wire order. -/
def unpackBytes (u : WireUnit) : Except CoreError (Byte × Byte) :=
  match checkUnit u with
  | .error e => .error e
  | .ok _ => .ok (u.b0, u.b1)

/-- UNPACK_FLOAT (R111, R114): the high unit first; if it fails the low unit is not examined. -/
def unpackFloat (high low : WireUnit) : Except CoreError U32 :=
  match unpackBytes high with
  | .error e => .error e
  | .ok (h0, h1) =>
    match unpackBytes low with
    | .error e => .error e
    | .ok (l0, l1) => .ok (h0 ++ h1 ++ l0 ++ l1)

/-- PACK_FLOAT (R115): not an operation of the hardware; the inverse that R116 speaks of. -/
def packFloat (f : U32) : WireUnit × WireUnit :=
  (packWord (f.extractLsb' 16 16), packWord (f.extractLsb' 0 16))

/-- The three bytes of a wire unit in wire order (R70). -/
def unitBytes (u : WireUnit) : List Byte := [u.b0, u.b1, u.b2]

/-- The wire unit at bytes `i`, `i+1`, `i+2` of a response (R55, R73). A response has the length asked for (R52), so no
byte is missing where a rule reads one. -/
def unitAt (bs : List Byte) (i : Nat) : WireUnit :=
  { b0 := bs.getD i 0#8, b1 := bs.getD (i + 1) 0#8, b2 := bs.getD (i + 2) 0#8 }

/-- READ_FLOAT(B, i) (R82): UNPACK_FLOAT of the units at `i` and `i+3`. -/
def readFloat (bs : List Byte) (i : Nat) : Except CoreError U32 :=
  unpackFloat (unitAt bs i) (unitAt bs (i + 3))

/-- The decode of READ_MEAS (R128): CO2, temperature, humidity in that order; the first failure ends it. -/
def decodeMeas (bs : List Byte) : Except CoreError (U32 × U32 × U32) :=
  match readFloat bs 0 with
  | .error e => .error e
  | .ok c =>
    match readFloat bs 6 with
    | .error e => .error e
    | .ok t =>
      match readFloat bs 12 with
      | .error e => .error e
      | .ok h => .ok (c, t, h)

end Sys2Proof.Machine
end

