-- ==== Sys2Proof/Machine/Operands.lean ====
section
/-! DEFINITION. Operand forms: the write frames (R72, R75), the read lengths (R56, R75), the results of the decode of a response, and the
placement of a primitive's result in fn_out (R34). -/

namespace Sys2Proof.Machine

/-- Format CMD2 (R72). -/
def cmd2 (hi lo : Byte) : List Byte := [hi, lo]

/-- Format CMD5 (R72): the command bytes, then PACK_WORD of the argument. -/
def cmd5 (hi lo : Byte) (arg : U16) : List Byte := [hi, lo] ++ unitBytes (packWord arg)

/-- Read length of a command with response RSP3 (R73, R75). -/
abbrev rsp3 : Nat := 3
/-- Read length of READ_MEAS, response RSP18 (R73, R75). -/
abbrev rsp18 : Nat := 18
/-- Read length 0: no TrRead transaction (R121, 90_conflicts.md C2). -/
abbrev noRead : Nat := 0

/-- GET_READY's frame (R75). -/
def getReadyFrame : List Byte := cmd2 0x02#8 0x02#8
/-- GET_INTERVAL's frame (R75). -/
def getIntervalFrame : List Byte := cmd2 0x46#8 0x00#8
/-- SET_INTERVAL's frame (R75). -/
def setIntervalFrame (seconds : U16) : List Byte := cmd5 0x46#8 0x00#8 seconds
/-- GET_TEMP_OFFSET's frame (R75). -/
def getTempOffsetFrame : List Byte := cmd2 0x54#8 0x03#8
/-- TRIGGER_CONT's frame (R75). -/
def triggerContFrame (pressure : U16) : List Byte := cmd5 0x00#8 0x10#8 pressure
/-- READ_MEAS's frame (R75). -/
def readMeasFrame : List Byte := cmd2 0x03#8 0x00#8

/-- fn_out of CRC8: the checksum in fn_out[7:0] (R34). -/
def fnOutByte (b : Byte) : U32 := b.setWidth 32
/-- fn_out of PACK_WORD: fn_out[23:0] = byte 0, byte 1, CRC (R34). -/
def fnOutUnit (u : WireUnit) : U32 := (u.b0 ++ u.b1 ++ u.b2).setWidth 32
/-- fn_out of UNPACK_WORD: fn_out[15:0] (R34). -/
def fnOutWord (v : U16) : U32 := v.setWidth 32
/-- fn_out of UNPACK_BYTES: fn_out[15:8] = byte 0, fn_out[7:0] = byte 1 (R34). -/
def fnOutBytes (p : Byte × Byte) : U32 := (p.1 ++ p.2).setWidth 32

/-- `Ok(v)` sent through `f`, an error as it is. -/
def mapOk {α β : Type} (f : α → β) : Except CoreError α → Except CoreError β
  | .ok a => .ok (f a)
  | .error e => .error e

/-- A command's return value as data (R120). -/
def resultOf {α : Type} (f : α → CmdResult) : Except CoreError α → CmdResult
  | .ok a => f a
  | .error e => .err e

end Sys2Proof.Machine
end

