-- ==== Sys2Proof/Machine/Ops.lean ====
section
/-! DEFINITION. The operations every meaning is written over: the transport (R51, R52, R121), the presentation port (R36), the function
port's response (R34), the end of a command, taking an error (R149, R177, R178), and reset (R200). -/

namespace Sys2Proof.Machine

/-! ### Operation-local storage -/

/-- R32: what an operation leaves in CRC, TXBUF and RXBUF is unspecified: free values, TXBUF of at most 5 bytes, RXBUF of at most 18. A
command that is blocked has not ended: that the three are free values there too is a DESIGN CHOICE (log entry 11). -/
def State.clobberLocals (s : State) : State :=
  { s with
    crc := Config.freeCrc s.draws
    txbuf := (Config.freeTxbuf s.draws).take 5
    rxbuf := (Config.freeRxbuf s.draws).take 18 }

/-! ### The transport -/

/-- The answer the next TrWrite gets (R51): the first listed answer, else a free draw. -/
def trWriteAnswer (s : State) : WriteAnswer :=
  match s.trWrites with
  | a :: _ => a
  | [] => if Config.transportWriteOk s.draws then .ok else .ioError

/-- R52, D13: an answer of fewer or more than `n` bytes is no Ok answer but IoError. -/
def exactLength (n : Nat) (bs : List Byte) : ReadAnswer :=
  if bs.length = n then .bytes bs else .ioError

/-- The answer the next TrRead of `n` bytes gets (R52): the first listed answer, else a free draw. -/
def trReadAnswer (n : Nat) (s : State) : ReadAnswer :=
  match s.trReads with
  | .bytes bs :: _ => exactLength n bs
  | .ioError :: _ => .ioError
  | .never :: _ => .never
  | [] =>
    match Config.transportRead s.draws with
    | some bs => exactLength n bs
    | none => .ioError

/-- The next TrWrite is never answered (R211). -/
def writeUnanswered (s : State) : Bool :=
  match s.trWrites with
  | .never :: _ => true
  | _ => false

/-- The next TrRead is never answered (R211). -/
def readUnanswered (s : State) : Bool :=
  match s.trReads with
  | .never :: _ => true
  | _ => false

/-- The read of a command is issued only if it has one and its write was answered ok (R121). -/
def readIssued (rdlen : Nat) (s : State) : Bool := rdlen != 0 && trWriteAnswer s == .ok

/-- A command with this read length hangs: its write is never answered, or its read is issued and never answered (R211). -/
def xferUnanswered (rdlen : Nat) (s : State) : Bool :=
  writeUnanswered s || ((rdlen != 0 && readUnanswered s) && trWriteAnswer s == .ok)

/-- What XFER returns (R121): the first failure ends it; for read length 0, Ok of no bytes. -/
def xferResult (rdlen : Nat) (s : State) : Except CoreError (List Byte) :=
  match trWriteAnswer s with
  | .ok =>
    if rdlen = 0 then .ok []
    else
      match trReadAnswer rdlen s with
      | .bytes bs => .ok bs
      | _ => .error .ioError
  | _ => .error .ioError

/-- The bytes of a read event; `none` is IoError (R63). -/
def readBytes : ReadAnswer → Option (List Byte)
  | .bytes bs => some bs
  | _ => none

/-- The transactions of XFER in order (R60, R63, R121), each to CFG_ADDR (R21, R120). -/
def xferEvents (frame : List Byte) (rdlen : Nat) (s : State) : List Event :=
  .write s.cfgAddr frame (trWriteAnswer s == .ok) ::
    (if readIssued rdlen s then [.read s.cfgAddr rdlen (readBytes (trReadAnswer rdlen s))] else [])

/-- What a command does to the machine besides its result: its transactions are recorded, the answers consumed, the operation-local
storage left unspecified, one draw spent. It writes no register of R20 (R120). -/
def State.transact (frame : List Byte) (rdlen : Nat) (s : State) : State :=
  { s.clobberLocals with
    trace := s.trace ++ xferEvents frame rdlen s
    trWrites := s.trWrites.tail
    trReads := if readIssued rdlen s then s.trReads.tail else s.trReads
    draws := s.draws + 1 }

/-- A command whose write, or whose issued read, is never answered (R211): the core stays blocked in that transaction. STATE does not
change, no error is recorded, no register of R20 is written. The write answered ok before its read was issued is an event all the same
(R60, R63). The answer `never` is used up like any other (DESIGN CHOICE, log entry 2). The operation has not ended, and R32 does not say
how CRC, TXBUF and RXBUF read from outside it meanwhile: free values (DESIGN CHOICE, log entry 11). -/
def State.hang (frame : List Byte) (rdlen : Nat) (s : State) : State :=
  { s.clobberLocals with
    trace := if writeUnanswered s then s.trace else s.trace ++ [.write s.cfgAddr frame true]
    trWrites := s.trWrites.tail
    trReads := if writeUnanswered s then s.trReads else s.trReads.tail
    inFlight := some (if writeUnanswered s then .write s.cfgAddr frame else .read s.cfgAddr rdlen)
    cmdSlot := none
    draws := s.draws + 1 }

/-- The decode of a command that answers a word: UNPACK_WORD(B[0..2]) (R123, R124, R126). -/
def wordResult (s : State) : Except CoreError U16 :=
  match xferResult rsp3 s with
  | .error e => .error e
  | .ok bs => unpackWord (unitAt bs 0)

/-- The decode of READ_MEAS (R128). -/
def measResult (s : State) : Except CoreError (U32 × U32 × U32) :=
  match xferResult rsp18 s with
  | .error e => .error e
  | .ok bs => decodeMeas bs

/-- The result of a fire-and-forget command: Ok of nothing, or IoError (R125, R127). -/
def sendResult (s : State) : Except CoreError Unit :=
  match xferResult noRead s with
  | .error e => .error e
  | .ok _ => .ok ()

/-! ### The ports -/

/-- `emit` (R12, R36): one event appended to the history; it cannot fail or block. -/
def State.emit (ev : Event) (s : State) : State := { s with trace := s.trace ++ [ev] }

/-- The response of the function port (R34): what the rule calls unspecified is a free value. A primitive cannot raise IoError. -/
def fnResponse (draw : Nat) : Except CoreError U32 → FnResponse
  | .ok out =>
    { ok := true, out := out, expected := Config.freeFnExpected draw, actual := Config.freeFnActual draw }
  | .error (.crcMismatch x y) => { ok := false, out := Config.freeFnOut draw, expected := x, actual := y }
  | .error .ioError =>
    { ok := false, out := Config.freeFnOut draw, expected := Config.freeFnExpected draw,
      actual := Config.freeFnActual draw }

/-- The end of a request at the function port: the response is given, the request is served, the operation-local CRC is left
unspecified (R32, R34). The oldest request is the one served, and its response replaces the one before: DESIGN CHOICE, the signalling is
OPEN (D2, U25; log entry 28). -/
def State.fnRespond (r : Except CoreError U32) (s : State) : State :=
  { s with
    fnResp := some (fnResponse s.draws r)
    fnQueue := s.fnQueue.tail
    crc := Config.freeCrc s.draws
    draws := s.draws + 1 }

/-- The end of a command run by itself: its result is kept, the slot is free again (log entries 3 and 4). -/
def State.retireCommand (r : CmdResult) (s : State) : State := { s with cmdResult := some r, cmdSlot := none }

/-! ### Taking an error, this core's exception -/

/-- The startup phase is STATE 4, 5, 6 (R182). -/
def isStartup (code : BitVec 3) : Bool :=
  code == Code.initInterval || code == Code.initSet || code == Code.initOffset

/-- ERR_KIND's code of an error (R30, R170): 1 CrcMismatch, 2 IoError. -/
def errKindOf : CoreError → BitVec 2
  | .crcMismatch _ _ => 1#2
  | .ioError => 2#2

/-- What ERR_EXPECTED records (R30): the error's field, 0 for IoError. -/
def errExpectedOf : CoreError → Byte
  | .crcMismatch x _ => x
  | .ioError => 0#8

/-- What ERR_ACTUAL records (R30): the error's field, 0 for IoError. -/
def errActualOf : CoreError → Byte
  | .crcMismatch _ y => y
  | .ioError => 0#8

/-- The status record of an error in the state-step of `code` (R36, R149). -/
def statusOf (code : BitVec 3) : CoreError → Status
  | .crcMismatch x y => .crcMismatch x y code
  | .ioError => .ioError code

/-- RECORD_ERR(e, s) (R149, R30). -/
def State.recordErr (e : CoreError) (code : BitVec 3) (s : State) : State :=
  { (s.setFlag flagErr true).emit (.status (statusOf code e)) with
    errState := code
    errKind := errKindOf e
    errExpected := errExpectedOf e
    errActual := errActualOf e }

/-- Taking an error in the state-step of `code`: recorded, then to HALTED with FLAGS.FATAL in the startup phase (R150, R178), to
WAITING in the polling phase (R177). Nothing else is saved, and there is no return instruction: WAITING resumes (R180). -/
def State.takeError (e : CoreError) (code : BitVec 3) (s : State) : State :=
  { s.recordErr e code with
    flags := if isStartup code then withFlag (s.recordErr e code).flags flagFatal true else (s.recordErr e code).flags
    state := if isStartup code then Code.halted else Code.waiting }

/-! ### Reset -/

/-- Every register at its reset value, CFG_* as sampled (R40, R200); CRC, TXBUF and RXBUF unspecified; what the core had answered or
kept is gone ("Nothing survives a reset"), an unanswered transaction is abandoned, and the answers still to come stay: the next
transaction gets the next of them, `never` having been used up (U23 gives any answer; DESIGN CHOICE, log entry 2). The environment's
inputs and the history of events stay (log entry 8). -/
def State.resetRegisters (s : State) : State :=
  { s.clobberLocals with
    cfgAddr := s.cfgPort.addr
    cfgInterval := s.cfgPort.interval
    cfgPressure := s.cfgPort.pressure
    cfgPollElapsed := s.cfgPort.pollElapsed
    state := Code.initInterval
    stall := 0#17
    devInterval := none
    tempOffset := none
    flags := 0#4
    errKind := 0#2
    errExpected := 0#8
    errActual := 0#8
    errState := 0#3
    measCo2 := none
    measT := none
    measRh := none
    rst := false
    fnResp := none
    inFlight := none
    cmdSlot := none
    cmdResult := none
    draws := s.draws + 1 }

/-- Taking a reset (R200): the CFG port is sampled once; a launch the spec tells a model to refuse is refused (R21, R24). -/
def takeReset (s : State) : Host.Outcome State Fault Refusal :=
  if s.cfgPort.addr ≠ Config.addr then .refused .busAddressNotSupported
  else if s.cfgPort.pollElapsed = 0#16 then .refused .pollElapsedZero
  else .next s.resetRegisters

/-- Every operation that runs a command: blocked in the transaction that is never answered (R211), else its transactions are made and
`after` follows them. -/
def runTransaction (frame : List Byte) (rdlen : Nat) (after : State → State) (s : State) : Host.Outcome State Fault Refusal :=
  .next (if xferUnanswered rdlen s then s.hang frame rdlen else after (s.transact frame rdlen))

end Sys2Proof.Machine
end

