-- ==== Sys2Proof/Machine/Commands.lean ====
section
/-! DEFINITION. The six commands (R120 to R128), each run by itself: its transactions, and its result in the model's own cmdResult. The
state-steps run the same commands over the same operations (Machine/Sequencer.lean). -/

namespace Sys2Proof.Machine

/-- GET_READY (R123). -/
def execGetReady (s : State) : Host.Outcome State Fault Refusal :=
  runTransaction getReadyFrame rsp3 (State.retireCommand (resultOf .word (wordResult s))) s

/-- GET_INTERVAL (R124). -/
def execGetInterval (s : State) : Host.Outcome State Fault Refusal :=
  runTransaction getIntervalFrame rsp3 (State.retireCommand (resultOf .word (wordResult s))) s

/-- SET_INTERVAL(a) (R125). The frame sent is built by PACK_WORD (R94); the CRC byte `_c` of the encoded frame is not an operand of
the operation (log entry 6). -/
def execSetInterval (a : U16) (_c : Byte) (s : State) : Host.Outcome State Fault Refusal :=
  runTransaction (setIntervalFrame a) noRead (State.retireCommand (resultOf (fun _ => .done) (sendResult s))) s

/-- GET_TEMP_OFFSET (R126). -/
def execGetTempOffset (s : State) : Host.Outcome State Fault Refusal :=
  runTransaction getTempOffsetFrame rsp3 (State.retireCommand (resultOf .word (wordResult s))) s

/-- TRIGGER_CONT(a) (R127). The CRC byte as for SET_INTERVAL (log entry 6). -/
def execTriggerCont (a : U16) (_c : Byte) (s : State) : Host.Outcome State Fault Refusal :=
  runTransaction (triggerContFrame a) noRead (State.retireCommand (resultOf (fun _ => .done) (sendResult s))) s

/-- READ_MEAS (R128). -/
def execReadMeas (s : State) : Host.Outcome State Fault Refusal :=
  runTransaction readMeasFrame rsp18 (State.retireCommand (resultOf (fun m => .meas m.1 m.2.1 m.2.2) (measResult s))) s

end Sys2Proof.Machine
end

