-- ==== Sys2Proof/Machine/FnPort.lean ====
section
/-! DEFINITION. The five codec primitives as requests at the function port (R34): they read and write no register of R20. -/

namespace Sys2Proof.Machine

/-- CRC8 (R93). -/
def execCrc8 (b0 b1 : Byte) (s : State) : Host.Outcome State Fault Refusal :=
  .next (s.fnRespond (.ok (fnOutByte (crc8 b0 b1))))

/-- PACK_WORD (R102). -/
def execPackWord (value : U16) (s : State) : Host.Outcome State Fault Refusal :=
  .next (s.fnRespond (.ok (fnOutUnit (packWord value))))

/-- UNPACK_WORD (R103). -/
def execUnpackWord (unit : WireUnit) (s : State) : Host.Outcome State Fault Refusal :=
  .next (s.fnRespond (mapOk fnOutWord (unpackWord unit)))

/-- UNPACK_BYTES (R104). -/
def execUnpackBytes (unit : WireUnit) (s : State) : Host.Outcome State Fault Refusal :=
  .next (s.fnRespond (mapOk fnOutBytes (unpackBytes unit)))

/-- UNPACK_FLOAT (R111). -/
def execUnpackFloat (high low : WireUnit) (s : State) : Host.Outcome State Fault Refusal :=
  .next (s.fnRespond (unpackFloat high low))

end Sys2Proof.Machine
end

