-- ==== Sys2Proof/Machine/Sequencer.lean ====
section
/-! DEFINITION. The eight state-steps (R141 to R148). Each runs to its end, its command included, and writes STATE with its successor
(R140, R13); the sleeps of the source change nothing (R163). -/

namespace Sys2Proof.Machine

/-- INIT_INTERVAL after GET_INTERVAL has returned (R141). -/
def initIntervalAfter (r : Except CoreError U16) (s : State) : State :=
  match r with
  | .error e => s.takeError e Code.initInterval
  | .ok v =>
    { s.setFlag flagErr false with
      devInterval := some v
      state := if v = s.cfgInterval then Code.initOffset else Code.initSet }

/-- INIT_SET after SET_INTERVAL has returned (R142). -/
def initSetAfter (r : Except CoreError Unit) (s : State) : State :=
  match r with
  | .error e => s.takeError e Code.initSet
  | .ok _ => { s.setFlag flagErr false with state := Code.initOffset }

/-- INIT_OFFSET after GET_TEMP_OFFSET has returned (R143). -/
def initOffsetAfter (r : Except CoreError U16) (s : State) : State :=
  match r with
  | .error e => s.takeError e Code.initOffset
  | .ok v => { s.setFlag flagErr false with tempOffset := some v, state := Code.checkingReady }

/-- The not-ready path of CHECKING_READY (R144): STALL advanced, to WAITING. -/
def notReady (s : State) : State :=
  { s with stall := s.stall + s.cfgPollElapsed.setWidth 17, state := Code.waiting }

/-- CHECKING_READY after GET_READY has returned (R144, R173). On an error READY and ANOMALY are cleared, as R144 and R29 write out, where
R177 says that all registers but the error record and STATE are as before: DESIGN CHOICE, R144 and R29 are followed (log entry 29). -/
def checkingReadyAfter (r : Except CoreError U16) (s : State) : State :=
  match r with
  | .error e => ((s.setFlag flagReady false).setFlag flagAnomaly false).takeError e Code.checkingReady
  | .ok v =>
    if v = 1#16 then { (s.setReadyFlags v).setFlag flagErr false with state := Code.reading }
    else if v = 0#16 then notReady ((s.setReadyFlags v).setFlag flagErr false)
    else notReady (((s.setReadyFlags v).setFlag flagErr false).emit (.status (.protocolAnomaly v)))

/-- STALLED after TRIGGER_CONT has returned (R146). -/
def stalledAfter (r : Except CoreError Unit) (s : State) : State :=
  match r with
  | .error e => s.takeError e Code.stalled
  | .ok _ => { s.setFlag flagErr false with stall := 0#17, state := Code.checkingReady }

/-- READING after READ_MEAS has returned (R147): exactly one MEAS event on success, none otherwise. -/
def readingAfter (r : Except CoreError (U32 × U32 × U32)) (s : State) : State :=
  match r with
  | .error e => s.takeError e Code.reading
  | .ok (c, t, h) =>
    { (s.setFlag flagErr false).emit (.meas c t h) with
      measCo2 := some c, measT := some t, measRh := some h, stall := 0#17, state := Code.checkingReady }

/-- CHECKING_READY (R144). -/
def execCheckingReady (s : State) : Host.Outcome State Fault Refusal :=
  runTransaction getReadyFrame rsp3 (checkingReadyAfter (wordResult s)) s

/-- READING (R147). -/
def execReading (s : State) : Host.Outcome State Fault Refusal :=
  runTransaction readMeasFrame rsp18 (readingAfter (measResult s)) s

/-- WAITING (R145): unsigned, the 17-bit counter with the zero-extended interval; equality waits. -/
def execWaiting (s : State) : Host.Outcome State Fault Refusal :=
  .next { s with state := if s.stall ≤ s.cfgInterval.setWidth 17 then Code.checkingReady else Code.stalled }

/-- STALLED (R146). -/
def execStalled (s : State) : Host.Outcome State Fault Refusal :=
  runTransaction (triggerContFrame s.cfgPressure) noRead (stalledAfter (sendResult s)) s

/-- INIT_INTERVAL (R141). -/
def execInitInterval (s : State) : Host.Outcome State Fault Refusal :=
  runTransaction getIntervalFrame rsp3 (initIntervalAfter (wordResult s)) s

/-- INIT_SET (R142). -/
def execInitSet (s : State) : Host.Outcome State Fault Refusal :=
  runTransaction (setIntervalFrame s.cfgInterval) noRead (initSetAfter (sendResult s)) s

/-- INIT_OFFSET (R143). -/
def execInitOffset (s : State) : Host.Outcome State Fault Refusal :=
  runTransaction getTempOffsetFrame rsp3 (initOffsetAfter (wordResult s)) s

/-- HALTED (R148): nothing else; no transaction, no event. -/
def execHalted (s : State) : Host.Outcome State Fault Refusal :=
  .next { s with state := Code.halted }

end Sys2Proof.Machine
end

