-- ==== Sys2Proof/Machine/Dispatch.lean ====
section
/-! DEFINITION. One arm per operation. -/

namespace Sys2Proof.Machine

/-- The meaning of every operation. -/
def exec (i : Instr) (s : State) : Host.Outcome State Fault Refusal :=
  match i with
  | .crc8 b0 b1 => Sys2Proof.Machine.execCrc8 b0 b1 s
  | .packWord value => Sys2Proof.Machine.execPackWord value s
  | .unpackWord unit => Sys2Proof.Machine.execUnpackWord unit s
  | .unpackBytes unit => Sys2Proof.Machine.execUnpackBytes unit s
  | .unpackFloat high low => Sys2Proof.Machine.execUnpackFloat high low s
  | .getReady => Sys2Proof.Machine.execGetReady s
  | .getInterval => Sys2Proof.Machine.execGetInterval s
  | .setInterval a c => Sys2Proof.Machine.execSetInterval a c s
  | .getTempOffset => Sys2Proof.Machine.execGetTempOffset s
  | .triggerCont a c => Sys2Proof.Machine.execTriggerCont a c s
  | .readMeas => Sys2Proof.Machine.execReadMeas s
  | .checkingReady => Sys2Proof.Machine.execCheckingReady s
  | .reading => Sys2Proof.Machine.execReading s
  | .waiting => Sys2Proof.Machine.execWaiting s
  | .stalled => Sys2Proof.Machine.execStalled s
  | .initInterval => Sys2Proof.Machine.execInitInterval s
  | .initSet => Sys2Proof.Machine.execInitSet s
  | .initOffset => Sys2Proof.Machine.execInitOffset s
  | .halted => Sys2Proof.Machine.execHalted s

end Sys2Proof.Machine
end

