-- ==== Sys2Proof/WellFormed.lean ====
section
/-! DEFINITION. Which terms of Instr an encoding of the spec stands for: the CRC byte of a CMD5 frame is the CRC of its two argument bytes
(R72). Every other operand is a field whose every value is legal (R34, R83). -/

namespace Sys2Proof

/-- R72: byte 4 of a CMD5 frame is crc8(byte 2, byte 3). -/
def frameCrcOk (a : U16) (c : Byte) : Bool := c == Machine.crc8 (Machine.hiByte a) (Machine.loByte a)

/-- A well-formed operation. -/
def Instr.wf : Instr → Bool
  | .crc8 _ _ => true
  | .packWord _ => true
  | .unpackWord _ => true
  | .unpackBytes _ => true
  | .unpackFloat _ _ => true
  | .getReady => true
  | .getInterval => true
  | .setInterval a c => frameCrcOk a c
  | .getTempOffset => true
  | .triggerCont a c => frameCrcOk a c
  | .readMeas => true
  | .checkingReady => true
  | .reading => true
  | .waiting => true
  | .stalled => true
  | .initInterval => true
  | .initSet => true
  | .initOffset => true
  | .halted => true

end Sys2Proof
end

