-- ==== Sys2Proof/Decode.lean ====
section
/-! DEFINITION. From a container to an operation, total, rejecting by name; the encoder back; the opcode table as rows; decodeTableWord. -/

namespace Sys2Proof

/-- Why a container stands for no operation. -/
inductive DecodeError where
  /-- FSEL 5, 6 or 7 (R80). -/
  | reservedFnSelect
  /-- A byte string that is none of the six frames of R75. -/
  | unknownFrame
  deriving DecidableEq, Repr

/-- The wire unit in bits [off+23:off] of fn_in, byte 0 in the most significant position (R34). -/
def unitField (x : BitVec 48) (off : Nat) : WireUnit :=
  { b0 := x.extractLsb' (off + 16) 8, b1 := x.extractLsb' (off + 8) 8, b2 := x.extractLsb' off 8 }

/-- Format FN (R34, R78, R80): operands from fn_in, its unused high bits ignored. -/
def decodeFn (sel : BitVec 3) (x : BitVec 48) : Except DecodeError Instr :=
  if sel = 0#3 then .ok (.crc8 (x.extractLsb' 8 8) (x.extractLsb' 0 8))
  else if sel = 1#3 then .ok (.packWord (x.extractLsb' 0 16))
  else if sel = 2#3 then .ok (.unpackWord (unitField x 0))
  else if sel = 3#3 then .ok (.unpackBytes (unitField x 0))
  else if sel = 4#3 then .ok (.unpackFloat (unitField x 24) (unitField x 0))
  else .error .reservedFnSelect

/-- Format STATE (R25, R79): all eight codes are used, none is reserved. -/
def decodeState (code : BitVec 3) : Instr :=
  if code = Code.checkingReady then .checkingReady
  else if code = Code.reading then .reading
  else if code = Code.waiting then .waiting
  else if code = Code.stalled then .stalled
  else if code = Code.initInterval then .initInterval
  else if code = Code.initSet then .initSet
  else if code = Code.initOffset then .initOffset
  else .halted

/-- Format CMD2 (R72, R75): the 16-bit view of the two command bytes. -/
def decodeCmd2 (code : U16) : Except DecodeError Instr :=
  if code = 0x0202#16 then .ok .getReady
  else if code = 0x4600#16 then .ok .getInterval
  else if code = 0x5403#16 then .ok .getTempOffset
  else if code = 0x0300#16 then .ok .readMeas
  else .error .unknownFrame

/-- Format CMD5 (R72, R75): matched under the mask 0xFFFF000000, that is by the command bytes. -/
def decodeCmd5 (code a : U16) (c : Byte) : Except DecodeError Instr :=
  if code = 0x4600#16 then .ok (.setInterval a c)
  else if code = 0x0010#16 then .ok (.triggerCont a c)
  else .error .unknownFrame

/-- A write frame: its length tells CMD2 from CMD5 (R72, R76). -/
def decodeFrame : List Byte → Except DecodeError Instr
  | [h, l] => decodeCmd2 (h ++ l)
  | [h, l, a1, a0, c] => decodeCmd5 (h ++ l) (a1 ++ a0) c
  | _ => .error .unknownFrame

/-- The decoder. -/
def decode : Container → Except DecodeError Instr
  | .fn sel inp => decodeFn sel inp
  | .frame bytes => decodeFrame bytes
  | .state code => .ok (decodeState code)

/-- A wire unit as the low 24 bits of a 48-bit field (R34). -/
def unit48 (u : WireUnit) : BitVec 48 := (u.b0 ++ u.b1 ++ u.b2).setWidth 48

/-- The encoder, from the tables of R34, R75, R78 and R79; unused high bits of fn_in are 0. -/
def encode : Instr → Container
  | .crc8 b0 b1 => .fn 0#3 ((b0 ++ b1).setWidth 48)
  | .packWord v => .fn 1#3 (v.setWidth 48)
  | .unpackWord u => .fn 2#3 (unit48 u)
  | .unpackBytes u => .fn 3#3 (unit48 u)
  | .unpackFloat h l => .fn 4#3 (h.b0 ++ h.b1 ++ h.b2 ++ l.b0 ++ l.b1 ++ l.b2)
  | .getReady => .frame [0x02#8, 0x02#8]
  | .getInterval => .frame [0x46#8, 0x00#8]
  | .setInterval a c => .frame [0x46#8, 0x00#8, Machine.hiByte a, Machine.loByte a, c]
  | .getTempOffset => .frame [0x54#8, 0x03#8]
  | .triggerCont a c => .frame [0x00#8, 0x10#8, Machine.hiByte a, Machine.loByte a, c]
  | .readMeas => .frame [0x03#8, 0x00#8]
  | .checkingReady => .state Code.checkingReady
  | .reading => .state Code.reading
  | .waiting => .state Code.waiting
  | .stalled => .state Code.stalled
  | .initInterval => .state Code.initInterval
  | .initSet => .state Code.initSet
  | .initOffset => .state Code.initOffset
  | .halted => .state Code.halted

/-- The formats of the opcode table. -/
inductive Format where
  | fn
  | cmd2
  | cmd5
  | state
  deriving DecidableEq, Repr

/-- A row of the opcode table: `width` bits, matched where `word &&& mask = pattern`. -/
structure Row where
  format : Format
  width : Nat
  pattern : Nat
  mask : Nat
  deriving DecidableEq, Repr

/-- The row of spec/opcode_table.json an operation is encoded by (R75, R78, R79). -/
def Instr.row : Instr → Row
  | .crc8 _ _ => ⟨.fn, 3, 0, 0x7⟩
  | .packWord _ => ⟨.fn, 3, 1, 0x7⟩
  | .unpackWord _ => ⟨.fn, 3, 2, 0x7⟩
  | .unpackBytes _ => ⟨.fn, 3, 3, 0x7⟩
  | .unpackFloat _ _ => ⟨.fn, 3, 4, 0x7⟩
  | .getReady => ⟨.cmd2, 16, 0x0202, 0xFFFF⟩
  | .getInterval => ⟨.cmd2, 16, 0x4600, 0xFFFF⟩
  | .setInterval _ _ => ⟨.cmd5, 40, 0x4600000000, 0xFFFF000000⟩
  | .getTempOffset => ⟨.cmd2, 16, 0x5403, 0xFFFF⟩
  | .triggerCont _ _ => ⟨.cmd5, 40, 0x0010000000, 0xFFFF000000⟩
  | .readMeas => ⟨.cmd2, 16, 0x0300, 0xFFFF⟩
  | .checkingReady => ⟨.state, 3, 0, 0x7⟩
  | .reading => ⟨.state, 3, 1, 0x7⟩
  | .waiting => ⟨.state, 3, 2, 0x7⟩
  | .stalled => ⟨.state, 3, 3, 0x7⟩
  | .initInterval => ⟨.state, 3, 4, 0x7⟩
  | .initSet => ⟨.state, 3, 5, 0x7⟩
  | .initOffset => ⟨.state, 3, 6, 0x7⟩
  | .halted => ⟨.state, 3, 7, 0x7⟩

/-- The number the opcode table matches a container by, most significant byte first for a frame (R75, D36), with its format. -/
def tableWord : Container → Option (Format × Nat)
  | .fn sel _ => some (.fn, sel.toNat)
  | .frame [h, l] => some (.cmd2, (h ++ l).toNat)
  | .frame [h, l, a1, a0, c] => some (.cmd5, (h ++ l ++ a1 ++ a0 ++ c).toNat)
  | .frame _ => none
  | .state code => some (.state, code.toNat)

/-- `k` bytes of a number, most significant first: how a frame of the table's numbering lies on the wire (R53, R75). -/
def bytesOf : Nat → Nat → List Byte
  | 0, _ => []
  | k + 1, w => BitVec.ofNat 8 (w / 256 ^ k) :: bytesOf k w

/-- The container of a table word of `nbits` bits. A one-byte word is a value of STATE (log entry 5: the table gives FN and STATE
rows the same three bits, and STATE is what the sequencer fetches by); a word of 51 bits in seven bytes is a whole FN request,
fn_sel in the low three bits as the table's FN rows number it, fn_in above it. -/
def tableContainer (nbits w : Nat) : Option Container :=
  if nbits ≤ 8 then (if w < 8 then some (.state (BitVec.ofNat 3 w)) else none)
  else if nbits = 16 then (if w < 2 ^ 16 then some (.frame (bytesOf 2 w)) else none)
  else if nbits = 40 then (if w < 2 ^ 40 then some (.frame (bytesOf 5 w)) else none)
  else if nbits = 56 then (if w < 2 ^ 51 then some (.fn (BitVec.ofNat 3 w) (BitVec.ofNat 48 (w / 8))) else none)
  else none

/-- The operation the decoder reads from a word numbered as the opcode table numbers it. -/
def decodeTableWord (nbits w : Nat) : Option Instr :=
  match tableContainer nbits w with
  | none => none
  | some c =>
    match decode c with
    | .ok i => some i
    | .error _ => none

end Sys2Proof
end

