-- ==== Sys2Proof/Machine/Fetch.lean ====
section
/-! DEFINITION. Where the next operation comes from (log entry 7), and how a table word is placed there. -/

namespace Sys2Proof.Machine

/-- What selects the next operation: the model's own command slot if it is filled (log entry 3), else the oldest waiting FN request
(R34), else STATE (R25, R140). -/
def fetchContainer (s : State) : Container :=
  match s.cmdSlot with
  | some bytes => .frame bytes
  | none =>
    match s.fnQueue with
    | q :: _ => .fn q.sel q.inp
    | [] => .state s.state

/-- A container that stands for no operation, as a refusal. -/
def refusalOf : DecodeError → Refusal
  | .reservedFnSelect => .reservedFnSelect
  | .unknownFrame => .unknownFrame

/-- The next operation. -/
def fetch (s : State) : Except Refusal Instr :=
  match decode (fetchContainer s) with
  | .ok i => .ok i
  | .error e => .error (refusalOf e)

/-- The container `c` put where the next fetch finds it: no reset waits, no transaction is unanswered. -/
def placeContainer (c : Container) (s : State) : State :=
  match c with
  | .frame bytes => { s with rst := false, inFlight := none, cmdSlot := some bytes }
  | .fn sel inp =>
    { s with rst := false, inFlight := none, cmdSlot := none, fnQueue := { sel := sel, inp := inp } :: s.fnQueue }
  | .state code => { s with rst := false, inFlight := none, cmdSlot := none, fnQueue := [], state := code }

/-- A word of the opcode table put where the next fetch finds it. -/
def placeWord (s : State) (nbits w : Nat) : State :=
  match tableContainer nbits w with
  | some c => placeContainer c s
  | none => s

end Sys2Proof.Machine
end

