-- ==== Sys2Proof/Machine/Step.lean ====
section
/-! DEFINITION. One step: a reset if one waits; none while a transaction is unanswered; else the next operation. -/

namespace Sys2Proof.Machine

/-- One step of the machine. A reset comes first, whatever the sequencer is doing, an unanswered transaction included (R37, R200). While
a transaction is unanswered there is no other step (R211), a request at the FN port included: the core is single-threaded (R13, R61;
log entry 2). Else the fetched operation runs to its end (R13, R140). -/
def step (s : State) : Host.Outcome State Fault Refusal :=
  if s.rst then takeReset s
  else if s.inFlight.isSome then .fault .transactionUnanswered
  else
    match fetch s with
    | .ok i => exec i s
    | .error r => .refused r

/-- `s` with a word of the opcode table stored where `step` fetches its next operation (log entry 16). -/
def State.withFetchWord (s : State) (nbits w : Nat) : State := placeWord s nbits w

end Sys2Proof.Machine
end

