-- ==== Sys2Proof/Machine/Binary32.lean ====
section
/-! DEFINITION. Reading a 32-bit pattern as a number (R112, marked there as general knowledge): no rule of the core depends on it, and no
meaning of this model uses it (R113). For claims that speak of a numeric value. -/

namespace Sys2Proof.Machine

/-- Sign bit F[31] (R112). -/
def binary32Sign (f : U32) : Bool := f.getLsbD 31

/-- Biased exponent F[30:23] (R112). -/
def binary32Exponent (f : U32) : Nat := (f.extractLsb' 23 8).toNat

/-- Fraction F[22:0] (R112). -/
def binary32Fraction (f : U32) : Nat := (f.extractLsb' 0 23).toNat

/-- The kinds of R112's table. -/
inductive Binary32Kind where
  | zero
  | subnormal
  | normal
  | infinity
  | quietNaN
  | signallingNaN
  deriving DecidableEq, Repr

/-- The row of R112's table a pattern falls in. -/
def binary32Kind (f : U32) : Binary32Kind :=
  if binary32Exponent f = 0 then
    if binary32Fraction f = 0 then .zero else .subnormal
  else if binary32Exponent f = 255 then
    if binary32Fraction f = 0 then .infinity
    else if f.getLsbD 22 then .quietNaN else .signallingNaN
  else .normal

/-- The number a pattern stands for (R112); infinities and NaNs stand for none. -/
def binary32Value (f : U32) : Option ℚ :=
  let sign : ℚ := if binary32Sign f then -1 else 1
  match binary32Kind f with
  | .zero => some 0
  | .subnormal => some (sign * binary32Fraction f * 2 ^ (-149 : ℤ))
  | .normal =>
    some (sign * (1 + binary32Fraction f * 2 ^ (-23 : ℤ)) * 2 ^ ((binary32Exponent f : ℤ) - 127))
  | .infinity => none
  | .quietNaN => none
  | .signallingNaN => none

end Sys2Proof.Machine
end

