-- ==== Sys2Proof/Machine/HostView.lean ====
section
/-! DEFINITION. The host view (R41): registers read from outside between two steps, without side effect; no register can be written so. -/

namespace Sys2Proof.Machine

/-- The registers a host may read (R41), and the output record (R31, U20). -/
inductive HostReg where
  | devInterval
  | tempOffset
  | flags
  | errKind
  | errExpected
  | errActual
  | errState
  | state
  | stall
  | measCo2
  | measT
  | measRh
  deriving DecidableEq, Repr

/-- A register of `w` bits that may hold no value: then read number `n` answers any value of `w` bits (R27, R28, R31, U20). -/
def readOptional {w : Nat} (n : Nat) (r : Option (BitVec w)) : BitVec w :=
  match r with
  | some v => v
  | none => (Config.unwritten n).setWidth w

/-- Host read number `n` of register `r`. How the host reads is left open (R41, D39, U25): one register a read, between two steps, each
part of ERR_* on its own, zero-extended to 32 bits, is a DESIGN CHOICE (log entry 30). -/
def hostRead (n : Nat) (r : HostReg) (s : State) : U32 :=
  match r with
  | .devInterval => (readOptional n s.devInterval).setWidth 32
  | .tempOffset => (readOptional n s.tempOffset).setWidth 32
  | .flags => s.flags.setWidth 32
  | .errKind => s.errKind.setWidth 32
  | .errExpected => s.errExpected.setWidth 32
  | .errActual => s.errActual.setWidth 32
  | .errState => s.errState.setWidth 32
  | .state => s.state.setWidth 32
  | .stall => s.stall.setWidth 32
  | .measCo2 => readOptional n s.measCo2
  | .measT => readOptional n s.measT
  | .measRh => readOptional n s.measRh

end Sys2Proof.Machine
end

