-- ==== Sys2Proof/Machine/TraceText.lean ====
section
/-! DEFINITION. The textual form of a trace (R81), made from the event history; no meaning depends on it. -/

namespace Sys2Proof.Machine

/-- The name of a state-step (R25, R81). -/
def stateName (code : BitVec 3) : String :=
  if code = Code.checkingReady then "CHECKING_READY"
  else if code = Code.reading then "READING"
  else if code = Code.waiting then "WAITING"
  else if code = Code.stalled then "STALLED"
  else if code = Code.initInterval then "INIT_INTERVAL"
  else if code = Code.initSet then "INIT_SET"
  else if code = Code.initOffset then "INIT_OFFSET"
  else "HALTED"

/-- A hexadecimal digit, upper case (R81). -/
def hexDigit (n : Nat) : Char := ("0123456789ABCDEF".toList).getD n '?'

/-- `k` hexadecimal digits of a number. -/
def hexDigits : Nat → Nat → List Char
  | 0, _ => []
  | k + 1, n => hexDigit (n / 16 ^ k % 16) :: hexDigits k n

/-- A number as `k` hexadecimal digits. -/
def hex (k n : Nat) : String := String.ofList (hexDigits k n)

/-- Bytes as two-digit groups, each after a space (R11). -/
def bytesText (bs : List Byte) : String :=
  bs.foldl (fun acc b => acc ++ " " ++ hex 2 b.toNat) ""

/-- One event as its line (R81). -/
def Event.line : Event → String
  | .write addr bs ok =>
    "W " ++ hex 2 addr.toNat ++ bytesText bs ++ " -> " ++ (if ok then "ok" else "IoError")
  | .read addr n (some bs) => "R " ++ hex 2 addr.toNat ++ " " ++ toString n ++ " ->" ++ bytesText bs
  | .read addr n none => "R " ++ hex 2 addr.toNat ++ " " ++ toString n ++ " -> IoError"
  | .meas c t h => "PR MEAS co2=" ++ hex 8 c.toNat ++ " t=" ++ hex 8 t.toNat ++ " rh=" ++ hex 8 h.toNat
  | .status (.crcMismatch x y _) => "PR STATUS CrcMismatch expected=" ++ hex 2 x.toNat ++ " actual=" ++ hex 2 y.toNat
  | .status (.ioError _) => "PR STATUS IoError"
  | .status (.protocolAnomaly v) => "PR STATUS ProtocolAnomaly value=" ++ hex 4 v.toNat

/-- The line that opens a state-step (R81): its name, and STALL at its start. -/
def stepLine (s : State) : String :=
  "-- " ++ stateName s.state ++ " (STALL=" ++ toString s.stall.toNat ++ ")"

/-- The opening line of a step that is a state-step; a reset, a request at the FN port and a command run by itself have none,
and there is no step while a transaction is unanswered. -/
def headerLines (s : State) : List String :=
  if s.rst || s.inFlight.isSome || s.cmdSlot.isSome || !s.fnQueue.isEmpty then [] else [stepLine s]

/-- The lines of the next `k` steps, stopping where the machine stops (R81). -/
def traceLines : Nat → State → List String
  | 0, _ => []
  | k + 1, s =>
    match step s with
    | .next t => headerLines s ++ (t.trace.drop s.trace.length).map Event.line ++ traceLines k t
    | _ => []

end Sys2Proof.Machine
end

