-- ==== Sys2Proof/Safety.lean ====
section
/-! DEFINITION. The vocabulary of claims: which registers are the same, what a transaction of a command can answer, what a step completes
with, the invariant of the machine (R160, R161), and the evidence forms of the checksum (R95, R96). -/

namespace Sys2Proof.Machine

/-! ### What stays the same -/

/-- The sixteen registers of R20 hold the same. -/
structure SameRegisters (s t : State) : Prop where
  cfgAddr : t.cfgAddr = s.cfgAddr
  cfgInterval : t.cfgInterval = s.cfgInterval
  cfgPressure : t.cfgPressure = s.cfgPressure
  cfgPollElapsed : t.cfgPollElapsed = s.cfgPollElapsed
  state : t.state = s.state
  stall : t.stall = s.stall
  devInterval : t.devInterval = s.devInterval
  tempOffset : t.tempOffset = s.tempOffset
  flags : t.flags = s.flags
  errKind : t.errKind = s.errKind
  errExpected : t.errExpected = s.errExpected
  errActual : t.errActual = s.errActual
  errState : t.errState = s.errState
  measCo2 : t.measCo2 = s.measCo2
  measT : t.measT = s.measT
  measRh : t.measRh = s.measRh

/-- Nothing moved at the CFG, RST and FN ports. -/
structure SameHostPorts (s t : State) : Prop where
  cfgPort : t.cfgPort = s.cfgPort
  rst : t.rst = s.rst
  fnQueue : t.fnQueue = s.fnQueue
  fnResp : t.fnResp = s.fnResp

/-- Everything but the operation-local storage of R32 is the same. -/
def SameButLocals (s t : State) : Prop :=
  { s with crc := 0#8, txbuf := [], rxbuf := [] } = { t with crc := 0#8, txbuf := [], rxbuf := [] }

/-- The registers the core's rules read, the ports and the history are the same; FLAGS, ERR_*, DEV_INTERVAL, TEMP_OFFSET, MEAS_*, the
operation-local storage, the last FN response and the last command result may differ. -/
structure SameBehaviour (s t : State) : Prop where
  cfgAddr : t.cfgAddr = s.cfgAddr
  cfgInterval : t.cfgInterval = s.cfgInterval
  cfgPressure : t.cfgPressure = s.cfgPressure
  cfgPollElapsed : t.cfgPollElapsed = s.cfgPollElapsed
  state : t.state = s.state
  stall : t.stall = s.stall
  cfgPort : t.cfgPort = s.cfgPort
  rst : t.rst = s.rst
  fnQueue : t.fnQueue = s.fnQueue
  trWrites : t.trWrites = s.trWrites
  trReads : t.trReads = s.trReads
  inFlight : t.inFlight = s.inFlight
  trace : t.trace = s.trace
  cmdSlot : t.cmdSlot = s.cmdSlot
  draws : t.draws = s.draws

/-- Two outcomes of one kind, with states that behave the same or the same reason to stop. -/
def SameOutcome : Host.Outcome State Fault Refusal → Host.Outcome State Fault Refusal → Prop
  | .next s, .next t => SameBehaviour s t
  | .fault a, .fault b => a = b
  | .refused a, .refused b => a = b
  | _, _ => False

/-- The sequencer moves next: no reset waits, no transaction is unanswered, no command by itself and no FN request waits. -/
structure SequencerTurn (s : State) : Prop where
  rst : s.rst = false
  inFlight : s.inFlight = none
  cmdSlot : s.cmdSlot = none
  fnQueue : s.fnQueue = []

/-! ### What the transport answers a command -/

/-- A command that answers one word fails with `e`, having made the events `evs` (R121, R101, R176). -/
def WordFails (frame : List Byte) (s : State) (e : CoreError) (evs : List Event) : Prop :=
  (trWriteAnswer s = .ioError ∧ e = .ioError ∧ evs = [.write s.cfgAddr frame false]) ∨
  (trWriteAnswer s = .ok ∧ trReadAnswer 3 s = .ioError ∧ e = .ioError ∧
    evs = [.write s.cfgAddr frame true, .read s.cfgAddr 3 none]) ∨
  (∃ b0 b1 b2, trWriteAnswer s = .ok ∧ trReadAnswer 3 s = .bytes [b0, b1, b2] ∧ crc8 b0 b1 ≠ b2 ∧
    e = .crcMismatch (crc8 b0 b1) b2 ∧
    evs = [.write s.cfgAddr frame true, .read s.cfgAddr 3 (some [b0, b1, b2])])

/-- A command that answers one word succeeds with `v`, having made the events `evs` (R121, R103). -/
def WordAnswers (frame : List Byte) (s : State) (v : U16) (evs : List Event) : Prop :=
  ∃ b0 b1 b2, trWriteAnswer s = .ok ∧ trReadAnswer 3 s = .bytes [b0, b1, b2] ∧ crc8 b0 b1 = b2 ∧
    v = b0 ++ b1 ∧ evs = [.write s.cfgAddr frame true, .read s.cfgAddr 3 (some [b0, b1, b2])]

/-- A fire-and-forget command fails (R121). -/
def SendFails (frame : List Byte) (s : State) (evs : List Event) : Prop :=
  trWriteAnswer s = .ioError ∧ evs = [.write s.cfgAddr frame false]

/-- A fire-and-forget command succeeds: one write, no read (R121). -/
def SendSucceeds (frame : List Byte) (s : State) (evs : List Event) : Prop :=
  trWriteAnswer s = .ok ∧ evs = [.write s.cfgAddr frame true]

/-- The wire unit is valid: its third byte is the CRC of its first two (R70, R83). -/
def UnitValid (u : WireUnit) : Prop := crc8 u.b0 u.b1 = u.b2

/-- The 18 bytes of six wire units in wire order (R73). -/
def sixUnits (u0 u1 u2 u3 u4 u5 : WireUnit) : List Byte :=
  [u0.b0, u0.b1, u0.b2, u1.b0, u1.b1, u1.b2, u2.b0, u2.b1, u2.b2,
   u3.b0, u3.b1, u3.b2, u4.b0, u4.b1, u4.b2, u5.b0, u5.b1, u5.b2]

/-- The first unit of a list that is not valid is `u` (R128, R176: "in wire order"). -/
def FirstInvalid (us : List WireUnit) (u : WireUnit) : Prop :=
  ∃ before after, us = before ++ u :: after ∧ (∀ v ∈ before, UnitValid v) ∧ ¬ UnitValid u

/-- READ_MEAS fails with `e`, having made the events `evs` (R121, R128, R176). -/
def MeasFails (s : State) (e : CoreError) (evs : List Event) : Prop :=
  (trWriteAnswer s = .ioError ∧ e = .ioError ∧ evs = [.write s.cfgAddr [0x03#8, 0x00#8] false]) ∨
  (trWriteAnswer s = .ok ∧ trReadAnswer 18 s = .ioError ∧ e = .ioError ∧
    evs = [.write s.cfgAddr [0x03#8, 0x00#8] true, .read s.cfgAddr 18 none]) ∨
  (∃ u0 u1 u2 u3 u4 u5 u, trWriteAnswer s = .ok ∧ trReadAnswer 18 s = .bytes (sixUnits u0 u1 u2 u3 u4 u5) ∧
    FirstInvalid [u0, u1, u2, u3, u4, u5] u ∧ e = .crcMismatch (crc8 u.b0 u.b1) u.b2 ∧
    evs = [.write s.cfgAddr [0x03#8, 0x00#8] true, .read s.cfgAddr 18 (some (sixUnits u0 u1 u2 u3 u4 u5))])

/-- READ_MEAS succeeds with the three patterns, having made the events `evs` (R121, R128). -/
def MeasAnswers (s : State) (c t h : U32) (evs : List Event) : Prop :=
  ∃ u0 u1 u2 u3 u4 u5, trWriteAnswer s = .ok ∧ trReadAnswer 18 s = .bytes (sixUnits u0 u1 u2 u3 u4 u5) ∧
    (∀ u ∈ [u0, u1, u2, u3, u4, u5], UnitValid u) ∧
    c = u0.b0 ++ u0.b1 ++ u1.b0 ++ u1.b1 ∧ t = u2.b0 ++ u2.b1 ++ u3.b0 ++ u3.b1 ∧
    h = u4.b0 ++ u4.b1 ++ u5.b0 ++ u5.b1 ∧
    evs = [.write s.cfgAddr [0x03#8, 0x00#8] true, .read s.cfgAddr 18 (some (sixUnits u0 u1 u2 u3 u4 u5))]

/-- A command with this read length never gets an answer it waits for (R211). -/
def Unanswered (rdlen : Nat) (s : State) : Prop :=
  trWriteAnswer s = .never ∨ (rdlen ≠ 0 ∧ trWriteAnswer s = .ok ∧ trReadAnswer rdlen s = .never)

/-- How many bytes the command of an operation reads: of the command itself, or of the one a state-step runs (R123 to R128, R141 to R147);
`none` for an operation that runs no command. -/
def readLength : Instr → Option Nat
  | .crc8 _ _ | .packWord _ | .unpackWord _ | .unpackBytes _ | .unpackFloat _ _ | .waiting | .halted => none
  | .setInterval _ _ | .triggerCont _ _ | .initSet | .stalled => some 0
  | .getReady | .getInterval | .getTempOffset | .checkingReady | .initInterval | .initOffset => some 3
  | .readMeas | .reading => some 18

/-! ### What an operation completes with -/

/-- A request at the FN port is answered with `resp`; nothing else of the machine moves (R34, R100). -/
def FnCompletes (i : Instr) (s : State) (resp : FnResponse → Prop) : Prop :=
  ∃ t r, exec i s = .next t ∧ t.fnResp = some r ∧ resp r ∧ SameRegisters s t ∧ t.trace = s.trace ∧
    t.fnQueue = s.fnQueue.tail ∧ t.cfgPort = s.cfgPort ∧ t.rst = s.rst ∧ t.trWrites = s.trWrites ∧
    t.trReads = s.trReads ∧ t.inFlight = s.inFlight ∧ t.cmdSlot = s.cmdSlot ∧ t.cmdResult = s.cmdResult

/-- How many write transactions a list of events holds. -/
def writesIn (evs : List Event) : Nat :=
  evs.countP fun e => match e with | .write _ _ _ => true | _ => false

/-- How many read transactions a list of events holds. -/
def readsIn (evs : List Event) : Nat :=
  evs.countP fun e => match e with | .read _ _ _ => true | _ => false

/-- One listed answer of the transport is used for each transaction made, in order (R51, R52; log entry 1). -/
structure AnswersUsed (s t : State) (evs : List Event) : Prop where
  writes : t.trWrites = s.trWrites.drop (writesIn evs)
  reads : t.trReads = s.trReads.drop (readsIn evs)

/-- A command run by itself returns `result` after the events `evs`; no register of R20 and no host port moves (R120). -/
def CommandCompletes (i : Instr) (s : State) (result : CmdResult) (evs : List Event) : Prop :=
  ∃ t, exec i s = .next t ∧ t.cmdResult = some result ∧ t.trace = s.trace ++ evs ∧ SameRegisters s t ∧
    SameHostPorts s t ∧ t.inFlight = s.inFlight

/-- A state-step leaves the registers of `r` after the events `evs`; no host port moves (R140). -/
def StepCompletes (i : Instr) (s r : State) (evs : List Event) : Prop :=
  ∃ t, exec i s = .next t ∧ SameRegisters r t ∧ t.trace = s.trace ++ evs ∧ SameHostPorts s t ∧
    t.inFlight = s.inFlight ∧ t.cmdSlot = s.cmdSlot ∧ t.cmdResult = s.cmdResult

/-- An operation is blocked in the command of this frame and read length: in its write, or, its write answered ok and recorded, in its
read. No register of R20 and no host port moves (R211, R63); the answers met are used up (log entry 2). -/
def Hangs (frame : List Byte) (n : Nat) (i : Instr) (s : State) : Prop :=
  ∃ t, exec i s = .next t ∧ SameRegisters s t ∧ SameHostPorts s t ∧ t.cmdResult = s.cmdResult ∧
    t.trWrites = s.trWrites.tail ∧
    ((trWriteAnswer s = .never ∧ t.inFlight = some (.write s.cfgAddr frame) ∧ t.trace = s.trace ∧ t.trReads = s.trReads) ∨
     (trWriteAnswer s = .ok ∧ t.inFlight = some (.read s.cfgAddr n) ∧
        t.trace = s.trace ++ [.write s.cfgAddr frame true] ∧ t.trReads = s.trReads.tail))

/-- The error record of R30 for `e` in the state-step of `code`. -/
def withRecord (e : CoreError) (code : BitVec 3) (s : State) : State :=
  match e with
  | .crcMismatch x y => { s with errKind := 1#2, errExpected := x, errActual := y, errState := code }
  | .ioError => { s with errKind := 2#2, errExpected := 0#8, errActual := 0#8, errState := code }

/-- The status event of R149 for `e` in the state-step of `code`. -/
def errorEvent (e : CoreError) (code : BitVec 3) : Event :=
  match e with
  | .crcMismatch x y => .status (.crcMismatch x y code)
  | .ioError => .status (.ioError code)

/-- The registers after an error in the startup phase (R178): the record, FLAGS.ERR and FLAGS.FATAL set, STATE = HALTED. -/
def startupError (e : CoreError) (code : BitVec 3) (s : State) : State :=
  { withRecord e code s with flags := s.flags ||| 0b1100#4, state := 7#3 }

/-- The registers after an error in the polling phase (R177): the record, FLAGS.ERR set, STATE = WAITING. -/
def pollingError (e : CoreError) (code : BitVec 3) (s : State) : State :=
  { withRecord e code s with flags := s.flags ||| 0b0100#4, state := 2#3 }

/-- A transaction the core may issue: to CFG_ADDR, a write of 2 or 5 bytes, a read of 3 or 18 (R21, R56). -/
def LegalTransaction (s : State) : Transaction → Prop
  | .write addr bytes => addr = s.cfgAddr ∧ (bytes.length = 2 ∨ bytes.length = 5)
  | .read addr n => addr = s.cfgAddr ∧ (n = 3 ∨ n = 18)

/-- `k` steps of the machine. -/
def runs (k : Nat) (s : State) : Host.Outcome State Fault Refusal := Host.Core.run Sys2Proof.core k s

/-! ### The invariant -/

/-- What every state a run reaches satisfies (R160, R161 and the rules that write each register). -/
structure Inv (s : State) : Prop where
  /-- R21: the only legal address. -/
  addr : s.cfgAddr = 0x61#7
  /-- R24: legal values are 1 to 65535. -/
  elapsed : s.cfgPollElapsed ≠ 0#16
  /-- R160. -/
  stallBound : s.stall.toNat ≤ s.cfgInterval.toNat + s.cfgPollElapsed.toNat
  /-- R161: CHECKING_READY and READING begin with STALL <= CFG_INTERVAL. -/
  stallLow : s.state = 0#3 ∨ s.state = 1#3 → s.stall.toNat ≤ s.cfgInterval.toNat
  /-- R161: STALLED begins with STALL > CFG_INTERVAL. -/
  stallHigh : s.state = 3#3 → s.cfgInterval.toNat < s.stall.toNat
  /-- R143: STALL is 0 until the polling machine begins, and in HALTED, which only the startup steps reach (R152). -/
  stallZero : 4 ≤ s.state.toNat → s.stall = 0#17
  /-- R29, R148: FLAGS.FATAL is 1 exactly in HALTED. -/
  fatal : s.flags.getLsbD 3 = true ↔ s.state = 7#3
  /-- R29: READY and ANOMALY are two outcomes of one check. -/
  oneOutcome : ¬ (s.flags.getLsbD 0 = true ∧ s.flags.getLsbD 1 = true)
  /-- R144: READING is entered only with FLAGS.READY. -/
  readingReady : s.state = 1#3 → s.flags.getLsbD 0 = true
  /-- R30: code 3 is never written. -/
  errKind : s.errKind ≠ 3#2
  /-- R30: code 0 means no error since reset. -/
  noError : s.errKind = 0#2 →
    s.errExpected = 0#8 ∧ s.errActual = 0#8 ∧ s.errState = 0#3 ∧ s.flags.getLsbD 2 = false
  /-- R106: expected differs from actual in a raised CrcMismatch. -/
  crcRecord : s.errKind = 1#2 → s.errExpected ≠ s.errActual
  /-- R30: both fields are 0 for IoError. -/
  ioRecord : s.errKind = 2#2 → s.errExpected = 0#8 ∧ s.errActual = 0#8
  /-- R30, R145, R148: WAITING and HALTED run no command and record no error. -/
  errState : s.errState ≠ 2#3 ∧ s.errState ≠ 7#3
  /-- R31: the three registers of the record are written together. -/
  measTogether : s.measCo2.isSome = s.measT.isSome ∧ s.measT.isSome = s.measRh.isSome
  /-- R27, R141: past INIT_INTERVAL the sensor's interval is known. -/
  devKnown : s.state ≠ 4#3 → s.state ≠ 7#3 → s.devInterval.isSome = true
  /-- R142: INIT_SET is entered only when the two intervals differ. -/
  alignNeeded : s.state = 5#3 → s.devInterval ≠ some s.cfgInterval
  /-- R28, R143: in the polling phase the temperature offset is known. -/
  offsetKnown : s.state.toNat < 4 → s.tempOffset.isSome = true
  /-- R21, R56: what the core is blocked in is a transaction it may issue. -/
  flightLegal : ∀ x, s.inFlight = some x → LegalTransaction s x

/-! ### The checksum's evidence forms -/

/-- The remainder of a 24-bit polynomial divided by x^8 + x^5 + x^4 + 1, that is 0x131 (R95): `k` steps of long division, from bit
`7 + k` down to bit 8. -/
def polyRemainder : Nat → BitVec 24 → BitVec 24
  | 0, v => v
  | k + 1, v => polyRemainder k (if v.getLsbD (8 + k) then v ^^^ (0x131#24 <<< k) else v)

/-- The table of R96, rows 0x to 3x. -/
def crcTable0 : List Byte :=
  [0x00#8, 0x31#8, 0x62#8, 0x53#8, 0xC4#8, 0xF5#8, 0xA6#8, 0x97#8, 0xB9#8, 0x88#8, 0xDB#8, 0xEA#8, 0x7D#8, 0x4C#8, 0x1F#8, 0x2E#8,
   0x43#8, 0x72#8, 0x21#8, 0x10#8, 0x87#8, 0xB6#8, 0xE5#8, 0xD4#8, 0xFA#8, 0xCB#8, 0x98#8, 0xA9#8, 0x3E#8, 0x0F#8, 0x5C#8, 0x6D#8,
   0x86#8, 0xB7#8, 0xE4#8, 0xD5#8, 0x42#8, 0x73#8, 0x20#8, 0x11#8, 0x3F#8, 0x0E#8, 0x5D#8, 0x6C#8, 0xFB#8, 0xCA#8, 0x99#8, 0xA8#8,
   0xC5#8, 0xF4#8, 0xA7#8, 0x96#8, 0x01#8, 0x30#8, 0x63#8, 0x52#8, 0x7C#8, 0x4D#8, 0x1E#8, 0x2F#8, 0xB8#8, 0x89#8, 0xDA#8, 0xEB#8]

/-- R96, rows 4x to 7x. -/
def crcTable1 : List Byte :=
  [0x3D#8, 0x0C#8, 0x5F#8, 0x6E#8, 0xF9#8, 0xC8#8, 0x9B#8, 0xAA#8, 0x84#8, 0xB5#8, 0xE6#8, 0xD7#8, 0x40#8, 0x71#8, 0x22#8, 0x13#8,
   0x7E#8, 0x4F#8, 0x1C#8, 0x2D#8, 0xBA#8, 0x8B#8, 0xD8#8, 0xE9#8, 0xC7#8, 0xF6#8, 0xA5#8, 0x94#8, 0x03#8, 0x32#8, 0x61#8, 0x50#8,
   0xBB#8, 0x8A#8, 0xD9#8, 0xE8#8, 0x7F#8, 0x4E#8, 0x1D#8, 0x2C#8, 0x02#8, 0x33#8, 0x60#8, 0x51#8, 0xC6#8, 0xF7#8, 0xA4#8, 0x95#8,
   0xF8#8, 0xC9#8, 0x9A#8, 0xAB#8, 0x3C#8, 0x0D#8, 0x5E#8, 0x6F#8, 0x41#8, 0x70#8, 0x23#8, 0x12#8, 0x85#8, 0xB4#8, 0xE7#8, 0xD6#8]

/-- R96, rows 8x to Bx. -/
def crcTable2 : List Byte :=
  [0x7A#8, 0x4B#8, 0x18#8, 0x29#8, 0xBE#8, 0x8F#8, 0xDC#8, 0xED#8, 0xC3#8, 0xF2#8, 0xA1#8, 0x90#8, 0x07#8, 0x36#8, 0x65#8, 0x54#8,
   0x39#8, 0x08#8, 0x5B#8, 0x6A#8, 0xFD#8, 0xCC#8, 0x9F#8, 0xAE#8, 0x80#8, 0xB1#8, 0xE2#8, 0xD3#8, 0x44#8, 0x75#8, 0x26#8, 0x17#8,
   0xFC#8, 0xCD#8, 0x9E#8, 0xAF#8, 0x38#8, 0x09#8, 0x5A#8, 0x6B#8, 0x45#8, 0x74#8, 0x27#8, 0x16#8, 0x81#8, 0xB0#8, 0xE3#8, 0xD2#8,
   0xBF#8, 0x8E#8, 0xDD#8, 0xEC#8, 0x7B#8, 0x4A#8, 0x19#8, 0x28#8, 0x06#8, 0x37#8, 0x64#8, 0x55#8, 0xC2#8, 0xF3#8, 0xA0#8, 0x91#8]

/-- R96, rows Cx to Fx. -/
def crcTable3 : List Byte :=
  [0x47#8, 0x76#8, 0x25#8, 0x14#8, 0x83#8, 0xB2#8, 0xE1#8, 0xD0#8, 0xFE#8, 0xCF#8, 0x9C#8, 0xAD#8, 0x3A#8, 0x0B#8, 0x58#8, 0x69#8,
   0x04#8, 0x35#8, 0x66#8, 0x57#8, 0xC0#8, 0xF1#8, 0xA2#8, 0x93#8, 0xBD#8, 0x8C#8, 0xDF#8, 0xEE#8, 0x79#8, 0x48#8, 0x1B#8, 0x2A#8,
   0xC1#8, 0xF0#8, 0xA3#8, 0x92#8, 0x05#8, 0x34#8, 0x67#8, 0x56#8, 0x78#8, 0x49#8, 0x1A#8, 0x2B#8, 0xBC#8, 0x8D#8, 0xDE#8, 0xEF#8,
   0x82#8, 0xB3#8, 0xE0#8, 0xD1#8, 0x46#8, 0x77#8, 0x24#8, 0x15#8, 0x3B#8, 0x0A#8, 0x59#8, 0x68#8, 0xFF#8, 0xCE#8, 0x9D#8, 0xAC#8]

/-- The table T of R96, "evidence, not a second definition". -/
def crcTable : List Byte := crcTable0 ++ crcTable1 ++ crcTable2 ++ crcTable3

/-- The wire unit `u` with the bits of `mask` flipped (R97, R108). -/
def flipUnit (u mask : WireUnit) : WireUnit :=
  { b0 := u.b0 ^^^ mask.b0, b1 := u.b1 ^^^ mask.b1, b2 := u.b2 ^^^ mask.b2 }

/-- The 24-bit view of a wire unit (R70). -/
def unitOfBits (m : BitVec 24) : WireUnit :=
  { b0 := m.extractLsb' 16 8, b1 := m.extractLsb' 8 8, b2 := m.extractLsb' 0 8 }

end Sys2Proof.Machine
end

