-- ==== Sys2Proof/Certificates/Slice0/Obligations.lean ====
section
/-! DEFINITION. The statements for the provers. Each says what a rule of spec/ says of the machine; the rules are named in the docstrings. -/

open Sys2Proof Sys2Proof.Machine

/-! ### Encoding -/

/-- Decoding the encoding of a well-formed operation gives it back, with every operand (R34, R72, R75, R78, R79). -/
def Obligations.DecodeOfEncodeGivesTheInstruction : Prop :=
  ∀ i : Instr, i.wf = true → decode (encode i) = .ok i

/-- Each write frame and each value of STATE has one meaning, and no bit of it is dropped: encoding what was decoded gives the container
back (R72, R75, R76, R79). -/
def Obligations.EncodeOfDecodedFrameOrStateGivesItBack : Prop :=
  ∀ (c : Container) (i : Instr), decode c = .ok i → (∀ sel x, c ≠ .fn sel x) → encode i = c

/-- R34: "Unused high bits of fn_in are ignored": 16 bits are used by CRC8 and PACK_WORD, 24 by UNPACK_WORD and UNPACK_BYTES. -/
def Obligations.UnusedHighBitsOfFnInAreIgnored : Prop :=
  ∀ (sel : BitVec 3) (x y : BitVec 48),
    ((sel = 0#3 ∨ sel = 1#3) → x.extractLsb' 0 16 = y.extractLsb' 0 16 → decodeFn sel x = decodeFn sel y) ∧
    ((sel = 2#3 ∨ sel = 3#3) → x.extractLsb' 0 24 = y.extractLsb' 0 24 → decodeFn sel x = decodeFn sel y)

/-- No two rows of the opcode table of one format match one word (R75, R76, R78, R79). -/
def Obligations.TableRowsOfOneFormatNeverOverlap : Prop :=
  ∀ (i j : Instr) (w : Nat), i.row.format = j.row.format →
    w &&& i.row.mask = i.row.pattern → w &&& j.row.mask = j.row.pattern → i.row = j.row

/-- A few encodings written out from the spec's tables decode to the operation they stand for: FN with the operands of R34, both frame
formats of R75, STATE (R79). -/
def Obligations.SpecEncodingsDecode : Prop :=
  decode (.fn 0#3 0x00000000BEEF#48) = .ok (.crc8 0xBE#8 0xEF#8) ∧
  decode (.fn 4#3 0x43DBCB8C2E8F#48) =
    .ok (.unpackFloat ⟨0x43#8, 0xDB#8, 0xCB#8⟩ ⟨0x8C#8, 0x2E#8, 0x8F#8⟩) ∧
  decode (.frame [0x46#8, 0x00#8]) = .ok .getInterval ∧
  decode (.frame [0x46#8, 0x00#8, 0x00#8, 0x0A#8, 0x5A#8]) = .ok (.setInterval 10#16 0x5A#8) ∧
  decode (.state 3#3) = .ok .stalled

/-- A step runs the decoded operation: when no reset waits, no transaction is unanswered (R211) and what is fetched decodes to `i`, the step is exec of `i` on this very state.
What is fetched is the model's own command slot, else the oldest FN request, else STATE (R140, R34; log entries 3 and 7). -/
def Obligations.StepRunsTheDecodedOperation : Prop :=
  ∀ (s : State) (i : Instr), s.rst = false → s.inFlight = none →
    (∀ bytes, s.cmdSlot = some bytes → decode (.frame bytes) = .ok i → step s = exec i s) ∧
    (∀ q rest, s.cmdSlot = none → s.fnQueue = q :: rest → decode (.fn q.sel q.inp) = .ok i → step s = exec i s) ∧
    (s.cmdSlot = none → s.fnQueue = [] → decode (.state s.state) = .ok i → step s = exec i s)

/-- A word of the opcode table placed where the fetch finds it is the next operation the step runs (the model's own, log entry 16). -/
def Obligations.PlacedTableWordRunsNext : Prop :=
  ∀ (s : State) (nbits w : Nat) (i : Instr), decodeTableWord nbits w = some i →
    step (s.withFetchWord nbits w) = exec i (s.withFetchWord nbits w)

/-- R80: FSEL 5, 6 and 7 are reserved, and "a model refuses such a request rather than give it a result". -/
def Obligations.ReservedFnSelectIsRefused : Prop :=
  ∀ (s : State) (q : FnRequest) (rest : List FnRequest), s.rst = false → s.inFlight = none → s.cmdSlot = none →
    s.fnQueue = q :: rest → 5 ≤ q.sel.toNat → step s = .refused .reservedFnSelect

/-! ### The CRC-8 engine and the codecs -/

/-- R97 (a), the affine law. -/
def Obligations.Crc8AffineLaw : Prop :=
  ∀ a0 a1 b0 b1 : Byte, crc8 (a0 ^^^ b0) (a1 ^^^ b1) = crc8 a0 a1 ^^^ crc8 b0 b1 ^^^ 0x81#8

/-- R97 (b): with one byte fixed, CRC8 is a bijection of 0..255 in the other. -/
def Obligations.Crc8IsBijectiveInEachByte : Prop :=
  (∀ b0, Function.Bijective (fun b1 => crc8 b0 b1)) ∧ (∀ b1, Function.Bijective (fun b0 => crc8 b0 b1))

/-- R97 (c), R108: flipping any one, two or three of the 24 bits of a valid wire unit makes it invalid; some four-bit changes are not
detected. -/
def Obligations.CrcDetectsUpToThreeFlippedBits : Prop :=
  (∀ (u : WireUnit) (p q r : Fin 24), UnitValid u →
    ¬ UnitValid (flipUnit u (unitOfBits (1#24 <<< p.val ||| 1#24 <<< q.val ||| 1#24 <<< r.val)))) ∧
  (∃ u m : WireUnit, UnitValid u ∧ UnitValid (flipUnit u m) ∧
    ((List.range 24).countP fun k => (m.b0 ++ m.b1 ++ m.b2).getLsbD k) = 4)

/-- R95: CRC8(b0, b1) is the remainder of ((0xFF ^ b0) * x^8 + b1) * x^8 divided by 0x131. -/
def Obligations.Crc8IsThePolynomialRemainder : Prop :=
  ∀ b0 b1 : Byte, (crc8 b0 b1).setWidth 24 = polyRemainder 16 ((0xFF#8 ^^^ b0) ++ b1 ++ 0x00#8)

/-- R96: T, the table the rule prints, holds eight CRC_SHIFT steps of its index and is a permutation of 0..255; CRC_BYTE(c, b) = T[c ^ b]
and CRC8(b0, b1) = T[T[0xFF ^ b0] ^ b1], so CRC8(0x00, b1) = T[0xAC ^ b1]. -/
def Obligations.CrcMatchesThePrintedTable : Prop :=
  crcTable.length = 256 ∧ crcTable.Nodup ∧ (∀ i : Byte, crcTable[i.toNat]? = some (crcShifts 8 i)) ∧
  crcTable[0xFF]? = some 0xAC#8 ∧ (∀ b1 : Byte, crcTable[(0xAC#8 ^^^ b1).toNat]? = some (crc8 0x00#8 b1)) ∧
  (∀ c b : Byte, crcTable[(c ^^^ b).toNat]? = some (crcByte c b)) ∧
  (∀ b0 b1 t : Byte, crcTable[(0xFF#8 ^^^ b0).toNat]? = some t → crcTable[(t ^^^ b1).toNat]? = some (crc8 b0 b1))

/-- R105: the round trip in both directions; PACK_WORD is injective, and its image is exactly the set of units CHECK accepts. -/
def Obligations.WordCodecRoundTrip : Prop :=
  (∀ v : U16, unpackWord (packWord v) = .ok v) ∧
  (∀ (u : WireUnit) (v : U16), unpackWord u = .ok v → packWord v = u) ∧
  Function.Injective packWord ∧
  (∀ u : WireUnit, checkUnit u = .ok () ↔ ∃ v, packWord v = u)

/-- R107: UNPACK_WORD and UNPACK_BYTES succeed or fail together, with the same fields, and on success agree, on the function port too. -/
def Obligations.UnpackWordAndUnpackBytesAgree : Prop :=
  ∀ u : WireUnit,
    (∀ e, unpackWord u = .error e ↔ unpackBytes u = .error e) ∧
    (∀ v, unpackWord u = .ok v ↔ ∃ b0 b1, unpackBytes u = .ok (b0, b1) ∧ v = b0 ++ b1) ∧
    (∀ v p, unpackWord u = .ok v → unpackBytes u = .ok p → fnOutWord v = fnOutBytes p)

/-- R116: the float round trip in both directions, bit for bit, NaN patterns included. -/
def Obligations.FloatCodecRoundTrip : Prop :=
  (∀ f : U32, unpackFloat (packFloat f).1 (packFloat f).2 = .ok f) ∧
  (∀ (h l : WireUnit) (f : U32), unpackFloat h l = .ok f → packFloat f = (h, l))

/-- R114: the high unit is checked first; its failure is reported whatever the low unit holds. -/
def Obligations.UnpackFloatReportsTheFirstFailure : Prop :=
  ∀ h l : WireUnit,
    (¬ UnitValid h → unpackFloat h l = .error (.crcMismatch (crc8 h.b0 h.b1) h.b2)) ∧
    (UnitValid h → ¬ UnitValid l → unpackFloat h l = .error (.crcMismatch (crc8 l.b0 l.b1) l.b2)) ∧
    (UnitValid h → UnitValid l → unpackFloat h l = .ok (h.b0 ++ h.b1 ++ l.b0 ++ l.b1))

/-! ### The function port -/

/-- CRC8 (R93): FSEL 0 with its operands in fn_in[15:0]; seed, byte 0, byte 1; fn_out[7:0] the checksum, no register written, no
exception; 0x81 for two zero bytes, 0x00 for FF 00, and every result for exactly one second byte to each first byte. -/
def Obligations.Crc8RequestAnswersTheChecksum : Prop :=
  (∀ x : BitVec 48, decode (.fn 0#3 x) = .ok (.crc8 (x.extractLsb' 8 8) (x.extractLsb' 0 8))) ∧
  (∀ (b0 b1 : Byte) (s : State),
    FnCompletes (.crc8 b0 b1) s fun r => r.ok = true ∧ r.out = (crcByte (crcByte 0xFF#8 b0) b1).setWidth 32) ∧
  crc8 0x00#8 0x00#8 = 0x81#8 ∧ crc8 0xFF#8 0x00#8 = 0x00#8 ∧ (∀ b0 r : Byte, ∃! b1, crc8 b0 b1 = r)

/-- PACK_WORD (R102): FSEL 1 with the value in fn_in[15:0]; fn_out[23:0] the two bytes, most significant first, and their CRC8. -/
def Obligations.PackWordRequestAnswersTheUnit : Prop :=
  (∀ x : BitVec 48, decode (.fn 1#3 x) = .ok (.packWord (x.extractLsb' 0 16))) ∧
  (∀ (hi lo : Byte) (s : State),
    FnCompletes (.packWord (hi ++ lo)) s fun r => r.ok = true ∧ r.out = (hi ++ lo ++ crc8 hi lo).setWidth 32)

/-- UNPACK_WORD (R103): FSEL 2 with the unit in fn_in[23:0]; the word, or the CrcMismatch. -/
def Obligations.UnpackWordRequestAnswersWordOrMismatch : Prop :=
  (∀ x : BitVec 48, decode (.fn 2#3 x) =
    .ok (.unpackWord ⟨x.extractLsb' 16 8, x.extractLsb' 8 8, x.extractLsb' 0 8⟩)) ∧
  ∀ (u : WireUnit) (s : State),
    (UnitValid u → FnCompletes (.unpackWord u) s fun r => r.ok = true ∧ r.out = (u.b0 ++ u.b1).setWidth 32) ∧
    (¬ UnitValid u → FnCompletes (.unpackWord u) s fun r =>
      r.ok = false ∧ r.expected = crc8 u.b0 u.b1 ∧ r.actual = u.b2)

/-- UNPACK_BYTES (R104): FSEL 3 with the unit in fn_in[23:0]; the two bytes in wire order, or the CrcMismatch. -/
def Obligations.UnpackBytesRequestAnswersBytesOrMismatch : Prop :=
  (∀ x : BitVec 48, decode (.fn 3#3 x) =
    .ok (.unpackBytes ⟨x.extractLsb' 16 8, x.extractLsb' 8 8, x.extractLsb' 0 8⟩)) ∧
  ∀ (u : WireUnit) (s : State),
    (UnitValid u → FnCompletes (.unpackBytes u) s fun r =>
      r.ok = true ∧ r.out.extractLsb' 8 8 = u.b0 ∧ r.out.extractLsb' 0 8 = u.b1 ∧ r.out.extractLsb' 16 16 = 0#16) ∧
    (¬ UnitValid u → FnCompletes (.unpackBytes u) s fun r =>
      r.ok = false ∧ r.expected = crc8 u.b0 u.b1 ∧ r.actual = u.b2)

/-- UNPACK_FLOAT (R111): FSEL 4 with the high unit in fn_in[47:24], the low in fn_in[23:0]; the pattern, or the CrcMismatch of the first
unit that fails. -/
def Obligations.UnpackFloatRequestAnswersPatternOrMismatch : Prop :=
  (∀ x : BitVec 48, decode (.fn 4#3 x) =
    .ok (.unpackFloat ⟨x.extractLsb' 40 8, x.extractLsb' 32 8, x.extractLsb' 24 8⟩
      ⟨x.extractLsb' 16 8, x.extractLsb' 8 8, x.extractLsb' 0 8⟩)) ∧
  ∀ (h l : WireUnit) (s : State),
    (UnitValid h → UnitValid l → FnCompletes (.unpackFloat h l) s fun r =>
      r.ok = true ∧ r.out = h.b0 ++ h.b1 ++ l.b0 ++ l.b1) ∧
    (¬ UnitValid h → FnCompletes (.unpackFloat h l) s fun r =>
      r.ok = false ∧ r.expected = crc8 h.b0 h.b1 ∧ r.actual = h.b2) ∧
    (UnitValid h → ¬ UnitValid l → FnCompletes (.unpackFloat h l) s fun r =>
      r.ok = false ∧ r.expected = crc8 l.b0 l.b1 ∧ r.actual = l.b2)

/-- R34, R100, R110: a request through FN reads no register and may be made in any state, HALTED included. Two machines with the same
count of free draws give the same response, whatever else differs. The count `draws` is the MODEL's own (log entry 13), and the fields
R34 leaves unspecified are equated only because the counts are equal: for the fields R34 specifies no such premise is needed, see the
five statements before this one. -/
def Obligations.FnResponseIsTheSameInStatesOfEqualDraws : Prop :=
  ∀ (sel : BitVec 3) (x : BitVec 48) (i : Instr) (s s' : State), decodeFn sel x = .ok i → s.draws = s'.draws →
    ∃ t t', exec i s = .next t ∧ exec i s' = .next t' ∧ t.fnResp = t'.fnResp ∧ t.fnResp ≠ none

/-! ### Commands -/

/-- GET_READY (R123). Run by itself, with its result in cmdResult: the model's own, log entries 3 and 4. -/
def Obligations.GetReadyReturnsTheWord : Prop :=
  ∀ (s : State) (evs : List Event),
    (∀ v, WordAnswers [0x02#8, 0x02#8] s v evs → CommandCompletes .getReady s (.word v) evs) ∧
    (∀ e, WordFails [0x02#8, 0x02#8] s e evs → CommandCompletes .getReady s (.err e) evs)

/-- GET_INTERVAL (R124). Run by itself, with its result in cmdResult: the model's own, log entries 3 and 4. -/
def Obligations.GetIntervalReturnsTheWord : Prop :=
  ∀ (s : State) (evs : List Event),
    (∀ v, WordAnswers [0x46#8, 0x00#8] s v evs → CommandCompletes .getInterval s (.word v) evs) ∧
    (∀ e, WordFails [0x46#8, 0x00#8] s e evs → CommandCompletes .getInterval s (.err e) evs)

/-- SET_INTERVAL (R125): the frame is `46 00` and PACK_WORD of the argument; nothing is read back, and the
frame's own CRC byte `c` is no operand (log entry 6). Run by itself: the model's own, log entries 3 and 4. -/
def Obligations.SetIntervalSendsTheFrame : Prop :=
  ∀ (s : State) (hi lo c : Byte) (evs : List Event),
    (SendSucceeds [0x46#8, 0x00#8, hi, lo, crc8 hi lo] s evs → CommandCompletes (.setInterval (hi ++ lo) c) s .done evs) ∧
    (SendFails [0x46#8, 0x00#8, hi, lo, crc8 hi lo] s evs →
      CommandCompletes (.setInterval (hi ++ lo) c) s (.err .ioError) evs)

/-- GET_TEMP_OFFSET (R126). Run by itself, with its result in cmdResult: the model's own, log entries 3 and 4. -/
def Obligations.GetTempOffsetReturnsTheWord : Prop :=
  ∀ (s : State) (evs : List Event),
    (∀ v, WordAnswers [0x54#8, 0x03#8] s v evs → CommandCompletes .getTempOffset s (.word v) evs) ∧
    (∀ e, WordFails [0x54#8, 0x03#8] s e evs → CommandCompletes .getTempOffset s (.err e) evs)

/-- TRIGGER_CONT (R127): the frame is `00 10` and PACK_WORD of the argument; nothing is read back, and the
frame's own CRC byte `c` is no operand (log entry 6). Run by itself: the model's own, log entries 3 and 4. -/
def Obligations.TriggerContSendsTheFrame : Prop :=
  ∀ (s : State) (hi lo c : Byte) (evs : List Event),
    (SendSucceeds [0x00#8, 0x10#8, hi, lo, crc8 hi lo] s evs → CommandCompletes (.triggerCont (hi ++ lo) c) s .done evs) ∧
    (SendFails [0x00#8, 0x10#8, hi, lo, crc8 hi lo] s evs →
      CommandCompletes (.triggerCont (hi ++ lo) c) s (.err .ioError) evs)

/-- READ_MEAS (R128): three patterns from six valid units, else the error of the first unit that fails in wire order. Run by
itself: the model's own, log entries 3 and 4. -/
def Obligations.ReadMeasReturnsThreePatterns : Prop :=
  ∀ (s : State) (evs : List Event),
    (∀ c t h, MeasAnswers s c t h evs → CommandCompletes .readMeas s (.meas c t h) evs) ∧
    (∀ e, MeasFails s e evs → CommandCompletes .readMeas s (.err e) evs)

/-- R52, R176: a command that gets its answers either succeeds or fails, with one result: no answer of the transport is shut out. -/
def Obligations.EveryAnswerOfTheTransportIsCovered : Prop :=
  ∀ (frame : List Byte) (s : State),
    (¬ Unanswered 3 s → (∃ v evs, WordAnswers frame s v evs) ∨ (∃ e evs, WordFails frame s e evs)) ∧
    (¬ Unanswered 0 s → (∃ evs, SendSucceeds frame s evs) ∨ (∃ evs, SendFails frame s evs)) ∧
    (¬ Unanswered 18 s → (∃ c t h evs, MeasAnswers s c t h evs) ∨ (∃ e evs, MeasFails s e evs))

/-- R72, R75: the frame a command writes to the sensor is the frame it is encoded by, its first event, at address CFG_ADDR. A write
that is never answered is no event yet (R63): see AnUnansweredTransactionBlocksTheCore. -/
def Obligations.CommandsWriteTheirOwnEncoding : Prop :=
  ∀ (i : Instr) (s t : State) (bytes : List Byte), i.wf = true → encode i = .frame bytes →
    trWriteAnswer s ≠ .never → exec i s = .next t → ∃ ok evs, t.trace = s.trace ++ .write s.cfgAddr bytes ok :: evs

/-- R211, R60, R63: an operation whose write, or whose issued read, is never answered is blocked in it: STATE and every other register
stay, nothing is recorded but the write that was answered before the read. From then on there is no step but a reset. No operation faults,
and one whose own command, if it runs any, is answered never changes what the core is blocked in. That the answer `never` is used up is the model's choice (log entry 2). -/
def Obligations.AnUnansweredTransactionBlocksTheCore : Prop :=
  ∀ s : State,
    (Unanswered 3 s →
      Hangs [0x02#8, 0x02#8] 3 .getReady s ∧ Hangs [0x46#8, 0x00#8] 3 .getInterval s ∧
      Hangs [0x54#8, 0x03#8] 3 .getTempOffset s ∧ Hangs [0x02#8, 0x02#8] 3 .checkingReady s ∧
      Hangs [0x46#8, 0x00#8] 3 .initInterval s ∧ Hangs [0x54#8, 0x03#8] 3 .initOffset s) ∧
    (Unanswered 18 s → Hangs [0x03#8, 0x00#8] 18 .readMeas s ∧ Hangs [0x03#8, 0x00#8] 18 .reading s) ∧
    (∀ hi lo, Unanswered 0 s →
      (∀ c, Hangs [0x46#8, 0x00#8, hi, lo, crc8 hi lo] 0 (.setInterval (hi ++ lo) c) s ∧
        Hangs [0x00#8, 0x10#8, hi, lo, crc8 hi lo] 0 (.triggerCont (hi ++ lo) c) s) ∧
      (s.cfgInterval = hi ++ lo → Hangs [0x46#8, 0x00#8, hi, lo, crc8 hi lo] 0 .initSet s) ∧
      (s.cfgPressure = hi ++ lo → Hangs [0x00#8, 0x10#8, hi, lo, crc8 hi lo] 0 .stalled s)) ∧
    (∀ i r, exec i s ≠ .fault r) ∧
    (∀ i t, (∀ n, readLength i = some n → ¬ Unanswered n s) → exec i s = .next t → t.inFlight = s.inFlight) ∧
    (∀ r, step s = .fault r ↔ s.rst = false ∧ s.inFlight ≠ none)

/-! ### State-steps -/

/-- INIT_INTERVAL (R141). -/
def Obligations.InitIntervalComparesTheSensorsInterval : Prop :=
  ∀ (s : State) (evs : List Event),
    (∀ v, WordAnswers [0x46#8, 0x00#8] s v evs →
      StepCompletes .initInterval s
        { s with
          devInterval := some v, flags := s.flags &&& 0b1011#4,
          state := if v = s.cfgInterval then 6#3 else 5#3 } evs) ∧
    (∀ e, WordFails [0x46#8, 0x00#8] s e evs →
      StepCompletes .initInterval s (startupError e 4#3 s) (evs ++ [errorEvent e 4#3]))

/-- INIT_SET (R142): the configured interval is written and not read back; DEV_INTERVAL keeps what the sensor reported; the step is entered
only from INIT_INTERVAL, when the two differ. -/
def Obligations.InitSetWritesTheConfiguredInterval : Prop :=
  ∀ (s : State) (hi lo : Byte) (evs : List Event), s.cfgInterval = hi ++ lo →
    (SendSucceeds [0x46#8, 0x00#8, hi, lo, crc8 hi lo] s evs →
      StepCompletes .initSet s { s with flags := s.flags &&& 0b1011#4, state := 6#3 } evs) ∧
    (SendFails [0x46#8, 0x00#8, hi, lo, crc8 hi lo] s evs →
      StepCompletes .initSet s (startupError .ioError 5#3 s) (evs ++ [errorEvent .ioError 5#3])) ∧
    (∀ t, SequencerTurn s → step s = .next t → s.state ≠ 5#3 → t.state = 5#3 →
      s.state = 4#3 ∧ ∃ v, t.devInterval = some v ∧ v ≠ t.cfgInterval)

/-- INIT_OFFSET (R143). -/
def Obligations.InitOffsetRecordsTheOffset : Prop :=
  ∀ (s : State) (evs : List Event),
    (∀ v, WordAnswers [0x54#8, 0x03#8] s v evs →
      StepCompletes .initOffset s
        { s with tempOffset := some v, flags := s.flags &&& 0b1011#4, state := 0#3 } evs) ∧
    (∀ e, WordFails [0x54#8, 0x03#8] s e evs →
      StepCompletes .initOffset s (startupError e 6#3 s) (evs ++ [errorEvent e 6#3]))

/-- CHECKING_READY (R144, R173): 1 to READING; 0 and every other word to WAITING with STALL advanced, the others with an anomaly record; an
error to WAITING with STALL unchanged. That READY and ANOMALY are cleared on an error is the model's choice between two rules: R144 and R29
clear them, R177's sentence on the registers that stay would keep them (log entry 29, DESIGN CHOICE). -/
def Obligations.CheckingReadyClassifiesTheAnswer : Prop :=
  ∀ (s : State) (evs : List Event),
    (WordAnswers [0x02#8, 0x02#8] s 1#16 evs →
      StepCompletes .checkingReady s { s with flags := s.flags &&& 0b1000#4 ||| 0b0001#4, state := 1#3 } evs) ∧
    (WordAnswers [0x02#8, 0x02#8] s 0#16 evs →
      StepCompletes .checkingReady s
        { s with
          flags := s.flags &&& 0b1000#4, stall := s.stall + s.cfgPollElapsed.setWidth 17, state := 2#3 } evs) ∧
    (∀ v, WordAnswers [0x02#8, 0x02#8] s v evs → v ≠ 0#16 → v ≠ 1#16 →
      StepCompletes .checkingReady s
        { s with
          flags := s.flags &&& 0b1000#4 ||| 0b0010#4, stall := s.stall + s.cfgPollElapsed.setWidth 17,
          state := 2#3 } (evs ++ [.status (.protocolAnomaly v)])) ∧
    (∀ e, WordFails [0x02#8, 0x02#8] s e evs →
      StepCompletes .checkingReady s
        (pollingError e 0#3 { s with flags := s.flags &&& 0b1100#4 }) (evs ++ [errorEvent e 0#3]))

/-- READING (R147): one MEAS event, the record written, STALL cleared; on an error nothing of these, STALL kept. -/
def Obligations.ReadingPresentsTheMeasurement : Prop :=
  ∀ (s : State) (evs : List Event),
    (∀ c t h, MeasAnswers s c t h evs →
      StepCompletes .reading s
        { s with
          flags := s.flags &&& 0b1011#4, measCo2 := some c, measT := some t, measRh := some h, stall := 0#17,
          state := 0#3 } (evs ++ [.meas c t h])) ∧
    (∀ e, MeasFails s e evs →
      StepCompletes .reading s (pollingError e 1#3 s) (evs ++ [errorEvent e 1#3]))

/-- WAITING (R145): unsigned, equality waits; STATE only. -/
def Obligations.WaitingComparesStallWithTheInterval : Prop :=
  ∀ s : State,
    (s.stall.toNat ≤ s.cfgInterval.toNat → exec .waiting s = .next { s with state := 0#3 }) ∧
    (s.cfgInterval.toNat < s.stall.toNat → exec .waiting s = .next { s with state := 3#3 })

/-- STALLED (R146): the trigger; STALL cleared only when the transport accepts it. -/
def Obligations.StalledTriggersContinuousMeasurement : Prop :=
  ∀ (s : State) (hi lo : Byte) (evs : List Event), s.cfgPressure = hi ++ lo →
    (SendSucceeds [0x00#8, 0x10#8, hi, lo, crc8 hi lo] s evs →
      StepCompletes .stalled s { s with flags := s.flags &&& 0b1011#4, stall := 0#17, state := 0#3 } evs) ∧
    (SendFails [0x00#8, 0x10#8, hi, lo, crc8 hi lo] s evs →
      StepCompletes .stalled s (pollingError .ioError 3#3 s) (evs ++ [errorEvent .ioError 3#3]))

/-- HALTED (R148): nothing else; no transaction, no event; it never leaves the state. -/
def Obligations.HaltedDoesNothing : Prop :=
  ∀ s : State, exec .halted s = .next { s with state := 7#3 } ∧ (SequencerTurn s → s.state = 7#3 → step s = .next s)

/-! ### Rules of the whole machine -/

/-- R151: every transition of STATE, with what happens to STALL; a step blocked in its command makes none (R211). -/
def Obligations.EveryTransitionOfState : Prop :=
  ∀ s t : State, SequencerTurn s → step s = .next t →
    (s.state = 4#3 ∧ t.stall = s.stall ∧ (t.state = 6#3 ∨ t.state = 5#3 ∨ t.state = 7#3)) ∨
    (s.state = 5#3 ∧ t.stall = s.stall ∧ (t.state = 6#3 ∨ t.state = 7#3)) ∨
    (s.state = 6#3 ∧ t.stall = s.stall ∧ (t.state = 0#3 ∨ t.state = 7#3)) ∨
    (s.state = 0#3 ∧ t.state = 1#3 ∧ t.stall = s.stall) ∨
    (s.state = 0#3 ∧ t.state = 2#3 ∧ (t.stall = s.stall + s.cfgPollElapsed.setWidth 17 ∨ t.stall = s.stall)) ∨
    (s.state = 2#3 ∧ t.stall = s.stall ∧ (t.state = 0#3 ∨ t.state = 3#3)) ∨
    (s.state = 3#3 ∧ (t.state = 0#3 ∧ t.stall = 0#17 ∨ t.state = 2#3 ∧ t.stall = s.stall)) ∨
    (s.state = 1#3 ∧ (t.state = 0#3 ∧ t.stall = 0#17 ∨ t.state = 2#3 ∧ t.stall = s.stall)) ∨
    (s.state = 7#3 ∧ t.state = 7#3 ∧ t.stall = s.stall) ∨
    (t.inFlight ≠ none ∧ t.state = s.state ∧ t.stall = s.stall)

/-- R152, R182: the polling phase is left only by reset; HALTED is reached only from the startup steps and left only by reset; no step but a
reset enters the startup phase from outside it. -/
def Obligations.PhasesAreLeftAsTheRulesSay : Prop :=
  ∀ s t : State, s.rst = false → step s = .next t →
    (s.state.toNat < 4 → t.state.toNat < 4) ∧ (s.state = 7#3 → t.state = 7#3) ∧
    (t.state = 7#3 → s.state ≠ 7#3 → s.state = 4#3 ∨ s.state = 5#3 ∨ s.state = 6#3) ∧
    ((t.state = 4#3 ∨ t.state = 5#3 ∨ t.state = 6#3) → s.state = 4#3 ∨ s.state = 5#3 ∨ s.state = 6#3)

/-- R21, R22, R23, R24: the four configuration registers are written by reset only. -/
def Obligations.ConfigurationIsWrittenByResetOnly : Prop :=
  ∀ s t : State, s.rst = false → step s = .next t →
    t.cfgAddr = s.cfgAddr ∧ t.cfgInterval = s.cfgInterval ∧ t.cfgPressure = s.cfgPressure ∧
    t.cfgPollElapsed = s.cfgPollElapsed

/-- R26: STALL is written in exactly three places. -/
def Obligations.StallIsWrittenInThreePlaces : Prop :=
  ∀ s t : State, s.rst = false → step s = .next t → t.stall ≠ s.stall →
    SequencerTurn s ∧
    (s.state = 0#3 ∧ t.state = 2#3 ∧ t.stall = s.stall + s.cfgPollElapsed.setWidth 17 ∧
        (∃ v evs, WordAnswers [0x02#8, 0x02#8] s v evs ∧ v ≠ 1#16) ∨
      s.state = 3#3 ∧ t.stall = 0#17 ∧ (∃ frame evs, SendSucceeds frame s evs) ∨
      s.state = 1#3 ∧ t.stall = 0#17 ∧ (∃ c x h evs, MeasAnswers s c x h evs))

/-- R27, R28, R31, R39: each data register is written by exactly one state-step, the three of the record together. -/
def Obligations.EachDataRegisterHasOneWriter : Prop :=
  ∀ s t : State, s.rst = false → step s = .next t →
    (t.devInterval ≠ s.devInterval → SequencerTurn s ∧ s.state = 4#3) ∧
    (t.tempOffset ≠ s.tempOffset → SequencerTurn s ∧ s.state = 6#3) ∧
    (t.measCo2 ≠ s.measCo2 ∨ t.measT ≠ s.measT ∨ t.measRh ≠ s.measRh →
      SequencerTurn s ∧ s.state = 1#3 ∧
      ∃ c x h, t.measCo2 = some c ∧ t.measT = some x ∧ t.measRh = some h ∧ t.trace.getLast? = some (.meas c x h))

/-- R30, R149: the error record changes only in a state-step whose command fails, which names itself in ERR_STATE, sets FLAGS.ERR and ends
its events with the matching STATUS. -/
def Obligations.ErrorRecordIsWrittenOnErrorsOnly : Prop :=
  ∀ s t : State, s.rst = false → step s = .next t →
    (t.errKind = s.errKind ∧ t.errExpected = s.errExpected ∧ t.errActual = s.errActual ∧ t.errState = s.errState) ∨
    (SequencerTurn s ∧ t.errState = s.state ∧ t.flags.getLsbD 2 = true ∧
      ((∃ x y, x ≠ y ∧ t.errKind = 1#2 ∧ t.errExpected = x ∧ t.errActual = y ∧
          t.trace.getLast? = some (.status (.crcMismatch x y s.state))) ∨
        (t.errKind = 2#2 ∧ t.errExpected = 0#8 ∧ t.errActual = 0#8 ∧
          t.trace.getLast? = some (.status (.ioError s.state)))))

/-- R140, R34, R120: the sequencer is the only agent that changes the core's registers: a step that serves the FN port, or that runs a
command by itself, changes none. -/
def Obligations.OnlyTheSequencerChangesRegisters : Prop :=
  ∀ s t : State, s.rst = false → (s.cmdSlot ≠ none ∨ s.fnQueue ≠ []) → step s = .next t → SameRegisters s t

/-- No port issues a command (R120; the slot is the model's own, log entry 3): after every step the slot is empty. -/
def Obligations.NoStepFillsTheCommandSlot : Prop :=
  ∀ s t : State, step s = .next t → t.cmdSlot = none

/-! ### Reset -/

/-- R200, R40, R33: taking a reset, whatever the machine was doing, an unanswered transaction included, with any legal configuration
on the port. -/
def Obligations.ResetGivesEveryRegisterItsValue : Prop :=
  ∀ s : State, s.rst = true → s.cfgPort.addr = 0x61#7 → s.cfgPort.pollElapsed ≠ 0#16 →
    ∃ t, step s = .next t ∧
      t.cfgAddr = s.cfgPort.addr ∧ t.cfgInterval = s.cfgPort.interval ∧ t.cfgPressure = s.cfgPort.pressure ∧
      t.cfgPollElapsed = s.cfgPort.pollElapsed ∧ t.state = 4#3 ∧ t.stall = 0#17 ∧ t.flags = 0#4 ∧
      t.errKind = 0#2 ∧ t.errExpected = 0#8 ∧ t.errActual = 0#8 ∧ t.errState = 0#3 ∧
      t.devInterval = none ∧ t.tempOffset = none ∧ t.measCo2 = none ∧ t.measT = none ∧ t.measRh = none ∧
      t.rst = false ∧ t.inFlight = none ∧ t.trace = s.trace

/-- R21, R24: a launch with another address or with a poll-elapsed amount of 0 is refused. -/
def Obligations.IllegalLaunchIsRefused : Prop :=
  ∀ s : State, s.rst = true →
    (s.cfgPort.addr ≠ 0x61#7 → step s = .refused .busAddressNotSupported) ∧
    (s.cfgPort.addr = 0x61#7 → s.cfgPort.pollElapsed = 0#16 → step s = .refused .pollElapsedZero)

/-- The state after reset satisfies the invariant (R40; CFG_POLL_ELAPSED there is the model's choice, log entry 10). -/
def Obligations.ResetStateSatisfiesInvariant : Prop := Inv State.reset

/-- Every step keeps the invariant: R160, R161, R29, R30, R31, R56, R142, R143, R144, R148. -/
def Obligations.EveryStepKeepsInvariant : Prop :=
  ∀ s t : State, Inv s → step s = .next t → Inv t

/-- R160: in a state the invariant holds of, the addition in CHECKING_READY never overflows the 17-bit register. -/
def Obligations.StallAdditionNeverOverflows : Prop :=
  ∀ (s t : State) (v : U16) (evs : List Event), Inv s → SequencerTurn s → s.state = 0#3 →
    WordAnswers [0x02#8, 0x02#8] s v evs → v ≠ 1#16 → step s = .next t →
    t.stall.toNat = s.stall.toNat + s.cfgPollElapsed.toNat ∧ t.stall.toNat ≤ 131070

/-! ### The event history -/

/-- R56, R60, R63, R52, R21: a step only appends to the history; every write goes to CFG_ADDR with 2 or 5 bytes, every read is of 3 or 18
bytes at the same address, directly after a write that was answered ok, and an Ok answer has exactly that length. One listed answer of
the transport is used for each transaction (the model's own, log entry 1), unless the step is blocked in one: what is used then is said
by AnUnansweredTransactionBlocksTheCore. -/
def Obligations.StepsAppendLegalTransactions : Prop :=
  ∀ s t : State, step s = .next t →
    ∃ evs, t.trace = s.trace ++ evs ∧
      (∀ a bytes ok, Event.write a bytes ok ∈ evs → a = s.cfgAddr ∧ (bytes.length = 2 ∨ bytes.length = 5)) ∧
      (∀ a n r, Event.read a n r ∈ evs →
        a = s.cfgAddr ∧ (n = 3 ∨ n = 18) ∧ (∀ bs, r = some bs → bs.length = n) ∧
        ∃ bytes rest, evs = .write a bytes true :: .read a n r :: rest) ∧
      writesIn evs ≤ 1 ∧ (t.inFlight = none → AnswersUsed s t evs)

/-- R162 (a), (b), (d): a trigger is written only in STALLED; a MEAS event appears only in READING, for six valid units, after READY; in
HALTED no event appears. -/
def Obligations.TriggersAndMeasurementsAppearWhereTheRulesSay : Prop :=
  ∀ s t : State, SequencerTurn s → step s = .next t →
    ∃ evs, t.trace = s.trace ++ evs ∧
      (∀ a rest ok, Event.write a (0x00#8 :: 0x10#8 :: rest) ok ∈ evs → s.state = 3#3) ∧
      (∀ c x h, Event.meas c x h ∈ evs → s.state = 1#3 ∧ ∃ evs', MeasAnswers s c x h evs') ∧
      (s.state = 7#3 ∨ s.state = 2#3 → evs = []) ∧
      (s.state ≠ 1#3 → t.state = 1#3 → ∃ evs', WordAnswers [0x02#8, 0x02#8] s 1#16 evs')

/-- R113, R83 (d), R174: any three 32-bit patterns the sensor sends are accepted and presented bit for bit, NaN and infinities included. -/
def Obligations.AnyPatternIsPresentedBitForBit : Prop :=
  ∀ (s : State) (c x h : U32), SequencerTurn s → s.state = 1#3 → trWriteAnswer s = .ok →
    trReadAnswer 18 s = .bytes (sixUnits (packFloat c).1 (packFloat c).2 (packFloat x).1 (packFloat x).2
      (packFloat h).1 (packFloat h).2) →
    ∃ t, step s = .next t ∧ t.measCo2 = some c ∧ t.measT = some x ∧ t.measRh = some h ∧
      t.trace.getLast? = some (.meas c x h)

/-! ### Headlines over runs, and what cannot influence what -/

/-- R215: from CHECKING_READY with STALL = 0, STALLED is reached after the smallest k with k * CFG_POLL_ELAPSED > CFG_INTERVAL consecutive
not-ready answers, and not before. Every answer here is the not-ready word, 00 00 81 on the wire; an anomalous word, which R144 makes
advance STALL alike, is not among them. -/
def Obligations.StalledIsReachedAfterTheSmallestK : Prop :=
  ∀ (s : State) (k : Nat) (ws : List WriteAnswer) (rs : List ReadAnswer), SequencerTurn s → s.state = 0#3 →
    s.stall = 0#17 → s.cfgInterval.toNat < k * s.cfgPollElapsed.toNat →
    (∀ j < k, j * s.cfgPollElapsed.toNat ≤ s.cfgInterval.toNat) →
    s.trWrites = List.replicate k .ok ++ ws →
    s.trReads = List.replicate k (.bytes [0x00#8, 0x00#8, 0x81#8]) ++ rs →
    (∃ t, runs (2 * k) s = .next t ∧ t.state = 3#3 ∧ t.stall.toNat = k * s.cfgPollElapsed.toNat) ∧
    (∀ j < 2 * k, ∃ t, runs j s = .next t ∧ t.state ≠ 3#3)

/-- R213: a sensor that answers every check with a bad CRC, whatever three bytes each answer is made of, keeps the core alternating
between CHECKING_READY and WAITING without ever advancing STALL. -/
def Obligations.BadCrcsNeverAdvanceStall : Prop :=
  ∀ (s : State) (bad : List WireUnit) (ws : List WriteAnswer) (rs : List ReadAnswer), SequencerTurn s →
    s.state = 0#3 → s.stall.toNat ≤ s.cfgInterval.toNat → (∀ u ∈ bad, ¬ UnitValid u) →
    s.trWrites = List.replicate bad.length .ok ++ ws →
    s.trReads = bad.map (fun u => .bytes [u.b0, u.b1, u.b2]) ++ rs →
    (∀ j ≤ 2 * bad.length, ∃ t, runs j s = .next t ∧ t.state = (if j % 2 = 0 then 0#3 else 2#3) ∧ t.stall = s.stall ∧
      SequencerTurn t)

/-- R29, R27, R28, R31, R42: no rule of the core reads FLAGS, ERR_*, DEV_INTERVAL, TEMP_OFFSET or MEAS_*: two machines that differ in these
only have, after any number of steps, the same event history and again differ in these only. -/
def Obligations.HostViewRegistersNeverInfluenceBehaviour : Prop :=
  ∀ (k : Nat) (s s' : State), SameBehaviour s s' → SameOutcome (runs k s) (runs k s')

/-- R32: what CRC, TXBUF and RXBUF held before an operation is never read: two machines that differ in these only step to machines that
differ in these only. -/
def Obligations.OperationLocalStorageIsNeverRead : Prop :=
  ∀ s s' : State, SameButLocals s s' →
    (∀ t, step s = .next t → ∃ t', step s' = .next t' ∧ SameButLocals t t') ∧
    (∀ r, step s = .fault r → step s' = .fault r) ∧ (∀ r, step s = .refused r → step s' = .refused r)
end

