-- ==== Sys2Proof/Laws/Codec.lean ====
section
/-! SUPPORT. The laws of the checksum's steps and of the codecs' parts. -/

namespace Sys2Proof.Machine

/-- CRC_SHIFT is linear over exclusive-or (R97). -/
theorem crcShift_xor (a b : Byte) : crcShift (a ^^^ b) = crcShift a ^^^ crcShift b := by
  simp only [crcShift, BitVec.msb_xor, BitVec.shiftLeft_xor_distrib]
  cases a.msb <;> cases b.msb <;> simp
  · exact BitVec.xor_assoc _ _ _
  · rw [BitVec.xor_assoc, BitVec.xor_comm (b <<< 1), ← BitVec.xor_assoc]
  · rw [BitVec.xor_assoc, BitVec.xor_comm Config.crcPoly, BitVec.xor_assoc (b <<< 1), BitVec.xor_self,
      BitVec.xor_zero]

theorem crcShifts_xor (n : Nat) (a b : Byte) : crcShifts n (a ^^^ b) = crcShifts n a ^^^ crcShifts n b := by
  induction n generalizing a b with
  | zero => rfl
  | succ n ih => simp only [crcShifts, crcShift_xor, ih]

/-- CRC_BYTE depends on its two operands through their exclusive-or only (R92). -/
theorem crcByte_eq (c b : Byte) : crcByte c b = crcShifts 8 (c ^^^ b) := rfl

theorem crcByte_xor (c b : Byte) : crcByte c b = crcShifts 8 c ^^^ crcShifts 8 b := crcShifts_xor 8 c b

/-- CRC8 written as R93 writes it. -/
theorem crc8_eq (b0 b1 : Byte) : crc8 b0 b1 = crcByte (crcByte 0xFF#8 b0) b1 := rfl

@[simp] theorem hiByte_append (a b : Byte) : hiByte (a ++ b) = a := by
  unfold hiByte; exact BitVec.extractLsb'_append_eq_left

@[simp] theorem loByte_append (a b : Byte) : loByte (a ++ b) = b := by
  unfold loByte; exact BitVec.extractLsb'_append_eq_right

@[simp] theorem hiByte_append_loByte (v : U16) : hiByte v ++ loByte v = v := by
  apply BitVec.eq_of_getLsbD_eq
  intro i hi
  simp only [hiByte, loByte, BitVec.getLsbD_append, BitVec.getLsbD_extractLsb']
  by_cases h : i < 8
  · simp [h]
  · have : i - 8 < 8 := by omega
    simp [h, this, show 8 + (i - 8) = i by omega]

/-- CHECK passes exactly the valid units (R101, R83). -/
theorem checkUnit_ok {u : WireUnit} (h : crc8 u.b0 u.b1 = u.b2) : checkUnit u = .ok () := by
  simp [checkUnit, h]

/-- CHECK raises CrcMismatch with the fields of R106 on every other unit. -/
theorem checkUnit_error {u : WireUnit} (h : crc8 u.b0 u.b1 ≠ u.b2) :
    checkUnit u = .error (.crcMismatch (crc8 u.b0 u.b1) u.b2) := by
  simp [checkUnit, h]

theorem unpackWord_ok {u : WireUnit} (h : crc8 u.b0 u.b1 = u.b2) : unpackWord u = .ok (u.b0 ++ u.b1) := by
  simp [unpackWord, checkUnit_ok h]

theorem unpackWord_error {u : WireUnit} (h : crc8 u.b0 u.b1 ≠ u.b2) :
    unpackWord u = .error (.crcMismatch (crc8 u.b0 u.b1) u.b2) := by
  simp [unpackWord, checkUnit_error h]

theorem unpackBytes_ok {u : WireUnit} (h : crc8 u.b0 u.b1 = u.b2) : unpackBytes u = .ok (u.b0, u.b1) := by
  simp [unpackBytes, checkUnit_ok h]

theorem unpackBytes_error {u : WireUnit} (h : crc8 u.b0 u.b1 ≠ u.b2) :
    unpackBytes u = .error (.crcMismatch (crc8 u.b0 u.b1) u.b2) := by
  simp [unpackBytes, checkUnit_error h]

/-- The unit PACK_WORD builds is valid (R102, R105). -/
theorem packWord_valid (v : U16) : crc8 (packWord v).b0 (packWord v).b1 = (packWord v).b2 := rfl

/-- The frame bytes of a packed word (R72). -/
theorem unitBytes_packWord_append (a b : Byte) : unitBytes (packWord (a ++ b)) = [a, b, crc8 a b] := by
  simp [unitBytes, packWord]

end Sys2Proof.Machine
end

