-- ==== Sys2Proof/Laws/Flags.lean ====
section
/-! SUPPORT. What writing one bit of FLAGS does, as masks and bit by bit (R29). -/

namespace Sys2Proof.Machine

@[simp] theorem withFlag_err_false (f : BitVec 4) : withFlag f 2 false = f &&& 0b1011#4 := by revert f; decide
@[simp] theorem withFlag_err_true (f : BitVec 4) : withFlag f 2 true = f ||| 0b0100#4 := by revert f; decide
@[simp] theorem withFlag_fatal_true (f : BitVec 4) : withFlag f 3 true = f ||| 0b1000#4 := by revert f; decide
@[simp] theorem withFlag_ready_false (f : BitVec 4) : withFlag f 0 false = f &&& 0b1110#4 := by revert f; decide
@[simp] theorem withFlag_ready_true (f : BitVec 4) : withFlag f 0 true = f ||| 0b0001#4 := by revert f; decide
@[simp] theorem withFlag_anomaly_false (f : BitVec 4) : withFlag f 1 false = f &&& 0b1101#4 := by revert f; decide
@[simp] theorem withFlag_anomaly_true (f : BitVec 4) : withFlag f 1 true = f ||| 0b0010#4 := by revert f; decide

/-- Writing bit `b` changes bit `b` only. -/
theorem getLsbD_withFlag : ∀ (f : BitVec 4) (b i : Fin 4) (v : Bool),
    (withFlag f b.val v).getLsbD i.val = if i = b then v else f.getLsbD i.val := by decide

end Sys2Proof.Machine
end

