-- ==== Sys2Proof/Laws/State.lean ====
section
/-! SUPPORT. One lemma per field per update of State, each true by rfl: no later proof unfolds a record update. -/

namespace Sys2Proof.Machine

variable (s : State)

/-! ### setFlag -/

@[simp] theorem setFlag_cfgAddr (b : Nat) (v : Bool) : (s.setFlag b v).cfgAddr = s.cfgAddr := rfl
@[simp] theorem setFlag_cfgInterval (b : Nat) (v : Bool) : (s.setFlag b v).cfgInterval = s.cfgInterval := rfl
@[simp] theorem setFlag_cfgPressure (b : Nat) (v : Bool) : (s.setFlag b v).cfgPressure = s.cfgPressure := rfl
@[simp] theorem setFlag_cfgPollElapsed (b : Nat) (v : Bool) : (s.setFlag b v).cfgPollElapsed = s.cfgPollElapsed := rfl
@[simp] theorem setFlag_state (b : Nat) (v : Bool) : (s.setFlag b v).state = s.state := rfl
@[simp] theorem setFlag_stall (b : Nat) (v : Bool) : (s.setFlag b v).stall = s.stall := rfl
@[simp] theorem setFlag_devInterval (b : Nat) (v : Bool) : (s.setFlag b v).devInterval = s.devInterval := rfl
@[simp] theorem setFlag_tempOffset (b : Nat) (v : Bool) : (s.setFlag b v).tempOffset = s.tempOffset := rfl
@[simp] theorem setFlag_flags (b : Nat) (v : Bool) : (s.setFlag b v).flags = withFlag s.flags b v := rfl
@[simp] theorem setFlag_errKind (b : Nat) (v : Bool) : (s.setFlag b v).errKind = s.errKind := rfl
@[simp] theorem setFlag_errExpected (b : Nat) (v : Bool) : (s.setFlag b v).errExpected = s.errExpected := rfl
@[simp] theorem setFlag_errActual (b : Nat) (v : Bool) : (s.setFlag b v).errActual = s.errActual := rfl
@[simp] theorem setFlag_errState (b : Nat) (v : Bool) : (s.setFlag b v).errState = s.errState := rfl
@[simp] theorem setFlag_measCo2 (b : Nat) (v : Bool) : (s.setFlag b v).measCo2 = s.measCo2 := rfl
@[simp] theorem setFlag_measT (b : Nat) (v : Bool) : (s.setFlag b v).measT = s.measT := rfl
@[simp] theorem setFlag_measRh (b : Nat) (v : Bool) : (s.setFlag b v).measRh = s.measRh := rfl
@[simp] theorem setFlag_crc (b : Nat) (v : Bool) : (s.setFlag b v).crc = s.crc := rfl
@[simp] theorem setFlag_txbuf (b : Nat) (v : Bool) : (s.setFlag b v).txbuf = s.txbuf := rfl
@[simp] theorem setFlag_rxbuf (b : Nat) (v : Bool) : (s.setFlag b v).rxbuf = s.rxbuf := rfl
@[simp] theorem setFlag_cfgPort (b : Nat) (v : Bool) : (s.setFlag b v).cfgPort = s.cfgPort := rfl
@[simp] theorem setFlag_rst (b : Nat) (v : Bool) : (s.setFlag b v).rst = s.rst := rfl
@[simp] theorem setFlag_fnQueue (b : Nat) (v : Bool) : (s.setFlag b v).fnQueue = s.fnQueue := rfl
@[simp] theorem setFlag_fnResp (b : Nat) (v : Bool) : (s.setFlag b v).fnResp = s.fnResp := rfl
@[simp] theorem setFlag_trWrites (b : Nat) (v : Bool) : (s.setFlag b v).trWrites = s.trWrites := rfl
@[simp] theorem setFlag_trReads (b : Nat) (v : Bool) : (s.setFlag b v).trReads = s.trReads := rfl
@[simp] theorem setFlag_inFlight (b : Nat) (v : Bool) : (s.setFlag b v).inFlight = s.inFlight := rfl
@[simp] theorem setFlag_trace (b : Nat) (v : Bool) : (s.setFlag b v).trace = s.trace := rfl
@[simp] theorem setFlag_cmdSlot (b : Nat) (v : Bool) : (s.setFlag b v).cmdSlot = s.cmdSlot := rfl
@[simp] theorem setFlag_cmdResult (b : Nat) (v : Bool) : (s.setFlag b v).cmdResult = s.cmdResult := rfl
@[simp] theorem setFlag_draws (b : Nat) (v : Bool) : (s.setFlag b v).draws = s.draws := rfl

/-! ### clobberLocals -/

@[simp] theorem clobberLocals_cfgAddr : s.clobberLocals.cfgAddr = s.cfgAddr := rfl
@[simp] theorem clobberLocals_cfgInterval : s.clobberLocals.cfgInterval = s.cfgInterval := rfl
@[simp] theorem clobberLocals_cfgPressure : s.clobberLocals.cfgPressure = s.cfgPressure := rfl
@[simp] theorem clobberLocals_cfgPollElapsed : s.clobberLocals.cfgPollElapsed = s.cfgPollElapsed := rfl
@[simp] theorem clobberLocals_state : s.clobberLocals.state = s.state := rfl
@[simp] theorem clobberLocals_stall : s.clobberLocals.stall = s.stall := rfl
@[simp] theorem clobberLocals_devInterval : s.clobberLocals.devInterval = s.devInterval := rfl
@[simp] theorem clobberLocals_tempOffset : s.clobberLocals.tempOffset = s.tempOffset := rfl
@[simp] theorem clobberLocals_flags : s.clobberLocals.flags = s.flags := rfl
@[simp] theorem clobberLocals_errKind : s.clobberLocals.errKind = s.errKind := rfl
@[simp] theorem clobberLocals_errExpected : s.clobberLocals.errExpected = s.errExpected := rfl
@[simp] theorem clobberLocals_errActual : s.clobberLocals.errActual = s.errActual := rfl
@[simp] theorem clobberLocals_errState : s.clobberLocals.errState = s.errState := rfl
@[simp] theorem clobberLocals_measCo2 : s.clobberLocals.measCo2 = s.measCo2 := rfl
@[simp] theorem clobberLocals_measT : s.clobberLocals.measT = s.measT := rfl
@[simp] theorem clobberLocals_measRh : s.clobberLocals.measRh = s.measRh := rfl
@[simp] theorem clobberLocals_crc : s.clobberLocals.crc = Config.freeCrc s.draws := rfl
@[simp] theorem clobberLocals_txbuf : s.clobberLocals.txbuf = (Config.freeTxbuf s.draws).take 5 := rfl
@[simp] theorem clobberLocals_rxbuf : s.clobberLocals.rxbuf = (Config.freeRxbuf s.draws).take 18 := rfl
@[simp] theorem clobberLocals_cfgPort : s.clobberLocals.cfgPort = s.cfgPort := rfl
@[simp] theorem clobberLocals_rst : s.clobberLocals.rst = s.rst := rfl
@[simp] theorem clobberLocals_fnQueue : s.clobberLocals.fnQueue = s.fnQueue := rfl
@[simp] theorem clobberLocals_fnResp : s.clobberLocals.fnResp = s.fnResp := rfl
@[simp] theorem clobberLocals_trWrites : s.clobberLocals.trWrites = s.trWrites := rfl
@[simp] theorem clobberLocals_trReads : s.clobberLocals.trReads = s.trReads := rfl
@[simp] theorem clobberLocals_inFlight : s.clobberLocals.inFlight = s.inFlight := rfl
@[simp] theorem clobberLocals_trace : s.clobberLocals.trace = s.trace := rfl
@[simp] theorem clobberLocals_cmdSlot : s.clobberLocals.cmdSlot = s.cmdSlot := rfl
@[simp] theorem clobberLocals_cmdResult : s.clobberLocals.cmdResult = s.cmdResult := rfl
@[simp] theorem clobberLocals_draws : s.clobberLocals.draws = s.draws := rfl

/-! ### transact -/

@[simp] theorem transact_cfgAddr (frame : List Byte) (n : Nat) : (s.transact frame n).cfgAddr = s.cfgAddr := rfl
@[simp] theorem transact_cfgInterval (frame : List Byte) (n : Nat) : (s.transact frame n).cfgInterval = s.cfgInterval := rfl
@[simp] theorem transact_cfgPressure (frame : List Byte) (n : Nat) : (s.transact frame n).cfgPressure = s.cfgPressure := rfl
@[simp] theorem transact_cfgPollElapsed (frame : List Byte) (n : Nat) : (s.transact frame n).cfgPollElapsed = s.cfgPollElapsed := rfl
@[simp] theorem transact_state (frame : List Byte) (n : Nat) : (s.transact frame n).state = s.state := rfl
@[simp] theorem transact_stall (frame : List Byte) (n : Nat) : (s.transact frame n).stall = s.stall := rfl
@[simp] theorem transact_devInterval (frame : List Byte) (n : Nat) : (s.transact frame n).devInterval = s.devInterval := rfl
@[simp] theorem transact_tempOffset (frame : List Byte) (n : Nat) : (s.transact frame n).tempOffset = s.tempOffset := rfl
@[simp] theorem transact_flags (frame : List Byte) (n : Nat) : (s.transact frame n).flags = s.flags := rfl
@[simp] theorem transact_errKind (frame : List Byte) (n : Nat) : (s.transact frame n).errKind = s.errKind := rfl
@[simp] theorem transact_errExpected (frame : List Byte) (n : Nat) : (s.transact frame n).errExpected = s.errExpected := rfl
@[simp] theorem transact_errActual (frame : List Byte) (n : Nat) : (s.transact frame n).errActual = s.errActual := rfl
@[simp] theorem transact_errState (frame : List Byte) (n : Nat) : (s.transact frame n).errState = s.errState := rfl
@[simp] theorem transact_measCo2 (frame : List Byte) (n : Nat) : (s.transact frame n).measCo2 = s.measCo2 := rfl
@[simp] theorem transact_measT (frame : List Byte) (n : Nat) : (s.transact frame n).measT = s.measT := rfl
@[simp] theorem transact_measRh (frame : List Byte) (n : Nat) : (s.transact frame n).measRh = s.measRh := rfl
@[simp] theorem transact_crc (frame : List Byte) (n : Nat) : (s.transact frame n).crc = Config.freeCrc s.draws := rfl
@[simp] theorem transact_txbuf (frame : List Byte) (n : Nat) : (s.transact frame n).txbuf = (Config.freeTxbuf s.draws).take 5 := rfl
@[simp] theorem transact_rxbuf (frame : List Byte) (n : Nat) : (s.transact frame n).rxbuf = (Config.freeRxbuf s.draws).take 18 := rfl
@[simp] theorem transact_cfgPort (frame : List Byte) (n : Nat) : (s.transact frame n).cfgPort = s.cfgPort := rfl
@[simp] theorem transact_rst (frame : List Byte) (n : Nat) : (s.transact frame n).rst = s.rst := rfl
@[simp] theorem transact_fnQueue (frame : List Byte) (n : Nat) : (s.transact frame n).fnQueue = s.fnQueue := rfl
@[simp] theorem transact_fnResp (frame : List Byte) (n : Nat) : (s.transact frame n).fnResp = s.fnResp := rfl
@[simp] theorem transact_trWrites (frame : List Byte) (n : Nat) : (s.transact frame n).trWrites = s.trWrites.tail := rfl
@[simp] theorem transact_trReads (frame : List Byte) (n : Nat) : (s.transact frame n).trReads = if readIssued n s then s.trReads.tail else s.trReads := rfl
@[simp] theorem transact_inFlight (frame : List Byte) (n : Nat) : (s.transact frame n).inFlight = s.inFlight := rfl
@[simp] theorem transact_trace (frame : List Byte) (n : Nat) : (s.transact frame n).trace = s.trace ++ xferEvents frame n s := rfl
@[simp] theorem transact_cmdSlot (frame : List Byte) (n : Nat) : (s.transact frame n).cmdSlot = s.cmdSlot := rfl
@[simp] theorem transact_cmdResult (frame : List Byte) (n : Nat) : (s.transact frame n).cmdResult = s.cmdResult := rfl
@[simp] theorem transact_draws (frame : List Byte) (n : Nat) : (s.transact frame n).draws = s.draws + 1 := rfl

/-! ### hang -/

@[simp] theorem hang_cfgAddr (frame : List Byte) (n : Nat) : (s.hang frame n).cfgAddr = s.cfgAddr := rfl
@[simp] theorem hang_cfgInterval (frame : List Byte) (n : Nat) : (s.hang frame n).cfgInterval = s.cfgInterval := rfl
@[simp] theorem hang_cfgPressure (frame : List Byte) (n : Nat) : (s.hang frame n).cfgPressure = s.cfgPressure := rfl
@[simp] theorem hang_cfgPollElapsed (frame : List Byte) (n : Nat) : (s.hang frame n).cfgPollElapsed = s.cfgPollElapsed := rfl
@[simp] theorem hang_state (frame : List Byte) (n : Nat) : (s.hang frame n).state = s.state := rfl
@[simp] theorem hang_stall (frame : List Byte) (n : Nat) : (s.hang frame n).stall = s.stall := rfl
@[simp] theorem hang_devInterval (frame : List Byte) (n : Nat) : (s.hang frame n).devInterval = s.devInterval := rfl
@[simp] theorem hang_tempOffset (frame : List Byte) (n : Nat) : (s.hang frame n).tempOffset = s.tempOffset := rfl
@[simp] theorem hang_flags (frame : List Byte) (n : Nat) : (s.hang frame n).flags = s.flags := rfl
@[simp] theorem hang_errKind (frame : List Byte) (n : Nat) : (s.hang frame n).errKind = s.errKind := rfl
@[simp] theorem hang_errExpected (frame : List Byte) (n : Nat) : (s.hang frame n).errExpected = s.errExpected := rfl
@[simp] theorem hang_errActual (frame : List Byte) (n : Nat) : (s.hang frame n).errActual = s.errActual := rfl
@[simp] theorem hang_errState (frame : List Byte) (n : Nat) : (s.hang frame n).errState = s.errState := rfl
@[simp] theorem hang_measCo2 (frame : List Byte) (n : Nat) : (s.hang frame n).measCo2 = s.measCo2 := rfl
@[simp] theorem hang_measT (frame : List Byte) (n : Nat) : (s.hang frame n).measT = s.measT := rfl
@[simp] theorem hang_measRh (frame : List Byte) (n : Nat) : (s.hang frame n).measRh = s.measRh := rfl
@[simp] theorem hang_crc (frame : List Byte) (n : Nat) : (s.hang frame n).crc = Config.freeCrc s.draws := rfl
@[simp] theorem hang_txbuf (frame : List Byte) (n : Nat) : (s.hang frame n).txbuf = (Config.freeTxbuf s.draws).take 5 := rfl
@[simp] theorem hang_rxbuf (frame : List Byte) (n : Nat) : (s.hang frame n).rxbuf = (Config.freeRxbuf s.draws).take 18 := rfl
@[simp] theorem hang_cfgPort (frame : List Byte) (n : Nat) : (s.hang frame n).cfgPort = s.cfgPort := rfl
@[simp] theorem hang_rst (frame : List Byte) (n : Nat) : (s.hang frame n).rst = s.rst := rfl
@[simp] theorem hang_fnQueue (frame : List Byte) (n : Nat) : (s.hang frame n).fnQueue = s.fnQueue := rfl
@[simp] theorem hang_fnResp (frame : List Byte) (n : Nat) : (s.hang frame n).fnResp = s.fnResp := rfl
@[simp] theorem hang_trWrites (frame : List Byte) (n : Nat) : (s.hang frame n).trWrites = s.trWrites.tail := rfl
@[simp] theorem hang_trReads (frame : List Byte) (n : Nat) : (s.hang frame n).trReads = if writeUnanswered s then s.trReads else s.trReads.tail := rfl
@[simp] theorem hang_inFlight (frame : List Byte) (n : Nat) : (s.hang frame n).inFlight = some (if writeUnanswered s then .write s.cfgAddr frame else .read s.cfgAddr n) := rfl
@[simp] theorem hang_trace (frame : List Byte) (n : Nat) : (s.hang frame n).trace = if writeUnanswered s then s.trace else s.trace ++ [.write s.cfgAddr frame true] := rfl
@[simp] theorem hang_cmdSlot (frame : List Byte) (n : Nat) : (s.hang frame n).cmdSlot = none := rfl
@[simp] theorem hang_cmdResult (frame : List Byte) (n : Nat) : (s.hang frame n).cmdResult = s.cmdResult := rfl
@[simp] theorem hang_draws (frame : List Byte) (n : Nat) : (s.hang frame n).draws = s.draws + 1 := rfl

/-! ### emit -/

@[simp] theorem emit_cfgAddr (ev : Event) : (s.emit ev).cfgAddr = s.cfgAddr := rfl
@[simp] theorem emit_cfgInterval (ev : Event) : (s.emit ev).cfgInterval = s.cfgInterval := rfl
@[simp] theorem emit_cfgPressure (ev : Event) : (s.emit ev).cfgPressure = s.cfgPressure := rfl
@[simp] theorem emit_cfgPollElapsed (ev : Event) : (s.emit ev).cfgPollElapsed = s.cfgPollElapsed := rfl
@[simp] theorem emit_state (ev : Event) : (s.emit ev).state = s.state := rfl
@[simp] theorem emit_stall (ev : Event) : (s.emit ev).stall = s.stall := rfl
@[simp] theorem emit_devInterval (ev : Event) : (s.emit ev).devInterval = s.devInterval := rfl
@[simp] theorem emit_tempOffset (ev : Event) : (s.emit ev).tempOffset = s.tempOffset := rfl
@[simp] theorem emit_flags (ev : Event) : (s.emit ev).flags = s.flags := rfl
@[simp] theorem emit_errKind (ev : Event) : (s.emit ev).errKind = s.errKind := rfl
@[simp] theorem emit_errExpected (ev : Event) : (s.emit ev).errExpected = s.errExpected := rfl
@[simp] theorem emit_errActual (ev : Event) : (s.emit ev).errActual = s.errActual := rfl
@[simp] theorem emit_errState (ev : Event) : (s.emit ev).errState = s.errState := rfl
@[simp] theorem emit_measCo2 (ev : Event) : (s.emit ev).measCo2 = s.measCo2 := rfl
@[simp] theorem emit_measT (ev : Event) : (s.emit ev).measT = s.measT := rfl
@[simp] theorem emit_measRh (ev : Event) : (s.emit ev).measRh = s.measRh := rfl
@[simp] theorem emit_crc (ev : Event) : (s.emit ev).crc = s.crc := rfl
@[simp] theorem emit_txbuf (ev : Event) : (s.emit ev).txbuf = s.txbuf := rfl
@[simp] theorem emit_rxbuf (ev : Event) : (s.emit ev).rxbuf = s.rxbuf := rfl
@[simp] theorem emit_cfgPort (ev : Event) : (s.emit ev).cfgPort = s.cfgPort := rfl
@[simp] theorem emit_rst (ev : Event) : (s.emit ev).rst = s.rst := rfl
@[simp] theorem emit_fnQueue (ev : Event) : (s.emit ev).fnQueue = s.fnQueue := rfl
@[simp] theorem emit_fnResp (ev : Event) : (s.emit ev).fnResp = s.fnResp := rfl
@[simp] theorem emit_trWrites (ev : Event) : (s.emit ev).trWrites = s.trWrites := rfl
@[simp] theorem emit_trReads (ev : Event) : (s.emit ev).trReads = s.trReads := rfl
@[simp] theorem emit_inFlight (ev : Event) : (s.emit ev).inFlight = s.inFlight := rfl
@[simp] theorem emit_trace (ev : Event) : (s.emit ev).trace = s.trace ++ [ev] := rfl
@[simp] theorem emit_cmdSlot (ev : Event) : (s.emit ev).cmdSlot = s.cmdSlot := rfl
@[simp] theorem emit_cmdResult (ev : Event) : (s.emit ev).cmdResult = s.cmdResult := rfl
@[simp] theorem emit_draws (ev : Event) : (s.emit ev).draws = s.draws := rfl

/-! ### fnRespond -/

@[simp] theorem fnRespond_cfgAddr (r : Except CoreError U32) : (s.fnRespond r).cfgAddr = s.cfgAddr := rfl
@[simp] theorem fnRespond_cfgInterval (r : Except CoreError U32) : (s.fnRespond r).cfgInterval = s.cfgInterval := rfl
@[simp] theorem fnRespond_cfgPressure (r : Except CoreError U32) : (s.fnRespond r).cfgPressure = s.cfgPressure := rfl
@[simp] theorem fnRespond_cfgPollElapsed (r : Except CoreError U32) : (s.fnRespond r).cfgPollElapsed = s.cfgPollElapsed := rfl
@[simp] theorem fnRespond_state (r : Except CoreError U32) : (s.fnRespond r).state = s.state := rfl
@[simp] theorem fnRespond_stall (r : Except CoreError U32) : (s.fnRespond r).stall = s.stall := rfl
@[simp] theorem fnRespond_devInterval (r : Except CoreError U32) : (s.fnRespond r).devInterval = s.devInterval := rfl
@[simp] theorem fnRespond_tempOffset (r : Except CoreError U32) : (s.fnRespond r).tempOffset = s.tempOffset := rfl
@[simp] theorem fnRespond_flags (r : Except CoreError U32) : (s.fnRespond r).flags = s.flags := rfl
@[simp] theorem fnRespond_errKind (r : Except CoreError U32) : (s.fnRespond r).errKind = s.errKind := rfl
@[simp] theorem fnRespond_errExpected (r : Except CoreError U32) : (s.fnRespond r).errExpected = s.errExpected := rfl
@[simp] theorem fnRespond_errActual (r : Except CoreError U32) : (s.fnRespond r).errActual = s.errActual := rfl
@[simp] theorem fnRespond_errState (r : Except CoreError U32) : (s.fnRespond r).errState = s.errState := rfl
@[simp] theorem fnRespond_measCo2 (r : Except CoreError U32) : (s.fnRespond r).measCo2 = s.measCo2 := rfl
@[simp] theorem fnRespond_measT (r : Except CoreError U32) : (s.fnRespond r).measT = s.measT := rfl
@[simp] theorem fnRespond_measRh (r : Except CoreError U32) : (s.fnRespond r).measRh = s.measRh := rfl
@[simp] theorem fnRespond_crc (r : Except CoreError U32) : (s.fnRespond r).crc = Config.freeCrc s.draws := rfl
@[simp] theorem fnRespond_txbuf (r : Except CoreError U32) : (s.fnRespond r).txbuf = s.txbuf := rfl
@[simp] theorem fnRespond_rxbuf (r : Except CoreError U32) : (s.fnRespond r).rxbuf = s.rxbuf := rfl
@[simp] theorem fnRespond_cfgPort (r : Except CoreError U32) : (s.fnRespond r).cfgPort = s.cfgPort := rfl
@[simp] theorem fnRespond_rst (r : Except CoreError U32) : (s.fnRespond r).rst = s.rst := rfl
@[simp] theorem fnRespond_fnQueue (r : Except CoreError U32) : (s.fnRespond r).fnQueue = s.fnQueue.tail := rfl
@[simp] theorem fnRespond_fnResp (r : Except CoreError U32) : (s.fnRespond r).fnResp = some (fnResponse s.draws r) := rfl
@[simp] theorem fnRespond_trWrites (r : Except CoreError U32) : (s.fnRespond r).trWrites = s.trWrites := rfl
@[simp] theorem fnRespond_trReads (r : Except CoreError U32) : (s.fnRespond r).trReads = s.trReads := rfl
@[simp] theorem fnRespond_inFlight (r : Except CoreError U32) : (s.fnRespond r).inFlight = s.inFlight := rfl
@[simp] theorem fnRespond_trace (r : Except CoreError U32) : (s.fnRespond r).trace = s.trace := rfl
@[simp] theorem fnRespond_cmdSlot (r : Except CoreError U32) : (s.fnRespond r).cmdSlot = s.cmdSlot := rfl
@[simp] theorem fnRespond_cmdResult (r : Except CoreError U32) : (s.fnRespond r).cmdResult = s.cmdResult := rfl
@[simp] theorem fnRespond_draws (r : Except CoreError U32) : (s.fnRespond r).draws = s.draws + 1 := rfl

/-! ### retireCommand -/

@[simp] theorem retireCommand_cfgAddr (r : CmdResult) : (s.retireCommand r).cfgAddr = s.cfgAddr := rfl
@[simp] theorem retireCommand_cfgInterval (r : CmdResult) : (s.retireCommand r).cfgInterval = s.cfgInterval := rfl
@[simp] theorem retireCommand_cfgPressure (r : CmdResult) : (s.retireCommand r).cfgPressure = s.cfgPressure := rfl
@[simp] theorem retireCommand_cfgPollElapsed (r : CmdResult) : (s.retireCommand r).cfgPollElapsed = s.cfgPollElapsed := rfl
@[simp] theorem retireCommand_state (r : CmdResult) : (s.retireCommand r).state = s.state := rfl
@[simp] theorem retireCommand_stall (r : CmdResult) : (s.retireCommand r).stall = s.stall := rfl
@[simp] theorem retireCommand_devInterval (r : CmdResult) : (s.retireCommand r).devInterval = s.devInterval := rfl
@[simp] theorem retireCommand_tempOffset (r : CmdResult) : (s.retireCommand r).tempOffset = s.tempOffset := rfl
@[simp] theorem retireCommand_flags (r : CmdResult) : (s.retireCommand r).flags = s.flags := rfl
@[simp] theorem retireCommand_errKind (r : CmdResult) : (s.retireCommand r).errKind = s.errKind := rfl
@[simp] theorem retireCommand_errExpected (r : CmdResult) : (s.retireCommand r).errExpected = s.errExpected := rfl
@[simp] theorem retireCommand_errActual (r : CmdResult) : (s.retireCommand r).errActual = s.errActual := rfl
@[simp] theorem retireCommand_errState (r : CmdResult) : (s.retireCommand r).errState = s.errState := rfl
@[simp] theorem retireCommand_measCo2 (r : CmdResult) : (s.retireCommand r).measCo2 = s.measCo2 := rfl
@[simp] theorem retireCommand_measT (r : CmdResult) : (s.retireCommand r).measT = s.measT := rfl
@[simp] theorem retireCommand_measRh (r : CmdResult) : (s.retireCommand r).measRh = s.measRh := rfl
@[simp] theorem retireCommand_crc (r : CmdResult) : (s.retireCommand r).crc = s.crc := rfl
@[simp] theorem retireCommand_txbuf (r : CmdResult) : (s.retireCommand r).txbuf = s.txbuf := rfl
@[simp] theorem retireCommand_rxbuf (r : CmdResult) : (s.retireCommand r).rxbuf = s.rxbuf := rfl
@[simp] theorem retireCommand_cfgPort (r : CmdResult) : (s.retireCommand r).cfgPort = s.cfgPort := rfl
@[simp] theorem retireCommand_rst (r : CmdResult) : (s.retireCommand r).rst = s.rst := rfl
@[simp] theorem retireCommand_fnQueue (r : CmdResult) : (s.retireCommand r).fnQueue = s.fnQueue := rfl
@[simp] theorem retireCommand_fnResp (r : CmdResult) : (s.retireCommand r).fnResp = s.fnResp := rfl
@[simp] theorem retireCommand_trWrites (r : CmdResult) : (s.retireCommand r).trWrites = s.trWrites := rfl
@[simp] theorem retireCommand_trReads (r : CmdResult) : (s.retireCommand r).trReads = s.trReads := rfl
@[simp] theorem retireCommand_inFlight (r : CmdResult) : (s.retireCommand r).inFlight = s.inFlight := rfl
@[simp] theorem retireCommand_trace (r : CmdResult) : (s.retireCommand r).trace = s.trace := rfl
@[simp] theorem retireCommand_cmdSlot (r : CmdResult) : (s.retireCommand r).cmdSlot = none := rfl
@[simp] theorem retireCommand_cmdResult (r : CmdResult) : (s.retireCommand r).cmdResult = some r := rfl
@[simp] theorem retireCommand_draws (r : CmdResult) : (s.retireCommand r).draws = s.draws := rfl

/-! ### recordErr -/

@[simp] theorem recordErr_cfgAddr (e : CoreError) (code : BitVec 3) : (s.recordErr e code).cfgAddr = s.cfgAddr := rfl
@[simp] theorem recordErr_cfgInterval (e : CoreError) (code : BitVec 3) : (s.recordErr e code).cfgInterval = s.cfgInterval := rfl
@[simp] theorem recordErr_cfgPressure (e : CoreError) (code : BitVec 3) : (s.recordErr e code).cfgPressure = s.cfgPressure := rfl
@[simp] theorem recordErr_cfgPollElapsed (e : CoreError) (code : BitVec 3) : (s.recordErr e code).cfgPollElapsed = s.cfgPollElapsed := rfl
@[simp] theorem recordErr_state (e : CoreError) (code : BitVec 3) : (s.recordErr e code).state = s.state := rfl
@[simp] theorem recordErr_stall (e : CoreError) (code : BitVec 3) : (s.recordErr e code).stall = s.stall := rfl
@[simp] theorem recordErr_devInterval (e : CoreError) (code : BitVec 3) : (s.recordErr e code).devInterval = s.devInterval := rfl
@[simp] theorem recordErr_tempOffset (e : CoreError) (code : BitVec 3) : (s.recordErr e code).tempOffset = s.tempOffset := rfl
@[simp] theorem recordErr_flags (e : CoreError) (code : BitVec 3) : (s.recordErr e code).flags = withFlag s.flags flagErr true := rfl
@[simp] theorem recordErr_errKind (e : CoreError) (code : BitVec 3) : (s.recordErr e code).errKind = errKindOf e := rfl
@[simp] theorem recordErr_errExpected (e : CoreError) (code : BitVec 3) : (s.recordErr e code).errExpected = errExpectedOf e := rfl
@[simp] theorem recordErr_errActual (e : CoreError) (code : BitVec 3) : (s.recordErr e code).errActual = errActualOf e := rfl
@[simp] theorem recordErr_errState (e : CoreError) (code : BitVec 3) : (s.recordErr e code).errState = code := rfl
@[simp] theorem recordErr_measCo2 (e : CoreError) (code : BitVec 3) : (s.recordErr e code).measCo2 = s.measCo2 := rfl
@[simp] theorem recordErr_measT (e : CoreError) (code : BitVec 3) : (s.recordErr e code).measT = s.measT := rfl
@[simp] theorem recordErr_measRh (e : CoreError) (code : BitVec 3) : (s.recordErr e code).measRh = s.measRh := rfl
@[simp] theorem recordErr_crc (e : CoreError) (code : BitVec 3) : (s.recordErr e code).crc = s.crc := rfl
@[simp] theorem recordErr_txbuf (e : CoreError) (code : BitVec 3) : (s.recordErr e code).txbuf = s.txbuf := rfl
@[simp] theorem recordErr_rxbuf (e : CoreError) (code : BitVec 3) : (s.recordErr e code).rxbuf = s.rxbuf := rfl
@[simp] theorem recordErr_cfgPort (e : CoreError) (code : BitVec 3) : (s.recordErr e code).cfgPort = s.cfgPort := rfl
@[simp] theorem recordErr_rst (e : CoreError) (code : BitVec 3) : (s.recordErr e code).rst = s.rst := rfl
@[simp] theorem recordErr_fnQueue (e : CoreError) (code : BitVec 3) : (s.recordErr e code).fnQueue = s.fnQueue := rfl
@[simp] theorem recordErr_fnResp (e : CoreError) (code : BitVec 3) : (s.recordErr e code).fnResp = s.fnResp := rfl
@[simp] theorem recordErr_trWrites (e : CoreError) (code : BitVec 3) : (s.recordErr e code).trWrites = s.trWrites := rfl
@[simp] theorem recordErr_trReads (e : CoreError) (code : BitVec 3) : (s.recordErr e code).trReads = s.trReads := rfl
@[simp] theorem recordErr_inFlight (e : CoreError) (code : BitVec 3) : (s.recordErr e code).inFlight = s.inFlight := rfl
@[simp] theorem recordErr_trace (e : CoreError) (code : BitVec 3) : (s.recordErr e code).trace = s.trace ++ [.status (statusOf code e)] := rfl
@[simp] theorem recordErr_cmdSlot (e : CoreError) (code : BitVec 3) : (s.recordErr e code).cmdSlot = s.cmdSlot := rfl
@[simp] theorem recordErr_cmdResult (e : CoreError) (code : BitVec 3) : (s.recordErr e code).cmdResult = s.cmdResult := rfl
@[simp] theorem recordErr_draws (e : CoreError) (code : BitVec 3) : (s.recordErr e code).draws = s.draws := rfl

/-! ### takeError -/

@[simp] theorem takeError_cfgAddr (e : CoreError) (code : BitVec 3) : (s.takeError e code).cfgAddr = s.cfgAddr := rfl
@[simp] theorem takeError_cfgInterval (e : CoreError) (code : BitVec 3) : (s.takeError e code).cfgInterval = s.cfgInterval := rfl
@[simp] theorem takeError_cfgPressure (e : CoreError) (code : BitVec 3) : (s.takeError e code).cfgPressure = s.cfgPressure := rfl
@[simp] theorem takeError_cfgPollElapsed (e : CoreError) (code : BitVec 3) : (s.takeError e code).cfgPollElapsed = s.cfgPollElapsed := rfl
@[simp] theorem takeError_state (e : CoreError) (code : BitVec 3) : (s.takeError e code).state = if isStartup code then Code.halted else Code.waiting := rfl
@[simp] theorem takeError_stall (e : CoreError) (code : BitVec 3) : (s.takeError e code).stall = s.stall := rfl
@[simp] theorem takeError_devInterval (e : CoreError) (code : BitVec 3) : (s.takeError e code).devInterval = s.devInterval := rfl
@[simp] theorem takeError_tempOffset (e : CoreError) (code : BitVec 3) : (s.takeError e code).tempOffset = s.tempOffset := rfl
@[simp] theorem takeError_flags (e : CoreError) (code : BitVec 3) : (s.takeError e code).flags = if isStartup code then withFlag (withFlag s.flags flagErr true) flagFatal true else withFlag s.flags flagErr true := rfl
@[simp] theorem takeError_errKind (e : CoreError) (code : BitVec 3) : (s.takeError e code).errKind = errKindOf e := rfl
@[simp] theorem takeError_errExpected (e : CoreError) (code : BitVec 3) : (s.takeError e code).errExpected = errExpectedOf e := rfl
@[simp] theorem takeError_errActual (e : CoreError) (code : BitVec 3) : (s.takeError e code).errActual = errActualOf e := rfl
@[simp] theorem takeError_errState (e : CoreError) (code : BitVec 3) : (s.takeError e code).errState = code := rfl
@[simp] theorem takeError_measCo2 (e : CoreError) (code : BitVec 3) : (s.takeError e code).measCo2 = s.measCo2 := rfl
@[simp] theorem takeError_measT (e : CoreError) (code : BitVec 3) : (s.takeError e code).measT = s.measT := rfl
@[simp] theorem takeError_measRh (e : CoreError) (code : BitVec 3) : (s.takeError e code).measRh = s.measRh := rfl
@[simp] theorem takeError_crc (e : CoreError) (code : BitVec 3) : (s.takeError e code).crc = s.crc := rfl
@[simp] theorem takeError_txbuf (e : CoreError) (code : BitVec 3) : (s.takeError e code).txbuf = s.txbuf := rfl
@[simp] theorem takeError_rxbuf (e : CoreError) (code : BitVec 3) : (s.takeError e code).rxbuf = s.rxbuf := rfl
@[simp] theorem takeError_cfgPort (e : CoreError) (code : BitVec 3) : (s.takeError e code).cfgPort = s.cfgPort := rfl
@[simp] theorem takeError_rst (e : CoreError) (code : BitVec 3) : (s.takeError e code).rst = s.rst := rfl
@[simp] theorem takeError_fnQueue (e : CoreError) (code : BitVec 3) : (s.takeError e code).fnQueue = s.fnQueue := rfl
@[simp] theorem takeError_fnResp (e : CoreError) (code : BitVec 3) : (s.takeError e code).fnResp = s.fnResp := rfl
@[simp] theorem takeError_trWrites (e : CoreError) (code : BitVec 3) : (s.takeError e code).trWrites = s.trWrites := rfl
@[simp] theorem takeError_trReads (e : CoreError) (code : BitVec 3) : (s.takeError e code).trReads = s.trReads := rfl
@[simp] theorem takeError_inFlight (e : CoreError) (code : BitVec 3) : (s.takeError e code).inFlight = s.inFlight := rfl
@[simp] theorem takeError_trace (e : CoreError) (code : BitVec 3) : (s.takeError e code).trace = s.trace ++ [.status (statusOf code e)] := rfl
@[simp] theorem takeError_cmdSlot (e : CoreError) (code : BitVec 3) : (s.takeError e code).cmdSlot = s.cmdSlot := rfl
@[simp] theorem takeError_cmdResult (e : CoreError) (code : BitVec 3) : (s.takeError e code).cmdResult = s.cmdResult := rfl
@[simp] theorem takeError_draws (e : CoreError) (code : BitVec 3) : (s.takeError e code).draws = s.draws := rfl

/-! ### notReady -/

@[simp] theorem notReady_cfgAddr : (notReady s).cfgAddr = s.cfgAddr := rfl
@[simp] theorem notReady_cfgInterval : (notReady s).cfgInterval = s.cfgInterval := rfl
@[simp] theorem notReady_cfgPressure : (notReady s).cfgPressure = s.cfgPressure := rfl
@[simp] theorem notReady_cfgPollElapsed : (notReady s).cfgPollElapsed = s.cfgPollElapsed := rfl
@[simp] theorem notReady_state : (notReady s).state = Code.waiting := rfl
@[simp] theorem notReady_stall : (notReady s).stall = s.stall + s.cfgPollElapsed.setWidth 17 := rfl
@[simp] theorem notReady_devInterval : (notReady s).devInterval = s.devInterval := rfl
@[simp] theorem notReady_tempOffset : (notReady s).tempOffset = s.tempOffset := rfl
@[simp] theorem notReady_flags : (notReady s).flags = s.flags := rfl
@[simp] theorem notReady_errKind : (notReady s).errKind = s.errKind := rfl
@[simp] theorem notReady_errExpected : (notReady s).errExpected = s.errExpected := rfl
@[simp] theorem notReady_errActual : (notReady s).errActual = s.errActual := rfl
@[simp] theorem notReady_errState : (notReady s).errState = s.errState := rfl
@[simp] theorem notReady_measCo2 : (notReady s).measCo2 = s.measCo2 := rfl
@[simp] theorem notReady_measT : (notReady s).measT = s.measT := rfl
@[simp] theorem notReady_measRh : (notReady s).measRh = s.measRh := rfl
@[simp] theorem notReady_crc : (notReady s).crc = s.crc := rfl
@[simp] theorem notReady_txbuf : (notReady s).txbuf = s.txbuf := rfl
@[simp] theorem notReady_rxbuf : (notReady s).rxbuf = s.rxbuf := rfl
@[simp] theorem notReady_cfgPort : (notReady s).cfgPort = s.cfgPort := rfl
@[simp] theorem notReady_rst : (notReady s).rst = s.rst := rfl
@[simp] theorem notReady_fnQueue : (notReady s).fnQueue = s.fnQueue := rfl
@[simp] theorem notReady_fnResp : (notReady s).fnResp = s.fnResp := rfl
@[simp] theorem notReady_trWrites : (notReady s).trWrites = s.trWrites := rfl
@[simp] theorem notReady_trReads : (notReady s).trReads = s.trReads := rfl
@[simp] theorem notReady_inFlight : (notReady s).inFlight = s.inFlight := rfl
@[simp] theorem notReady_trace : (notReady s).trace = s.trace := rfl
@[simp] theorem notReady_cmdSlot : (notReady s).cmdSlot = s.cmdSlot := rfl
@[simp] theorem notReady_cmdResult : (notReady s).cmdResult = s.cmdResult := rfl
@[simp] theorem notReady_draws : (notReady s).draws = s.draws := rfl

/-! ### resetRegisters -/

@[simp] theorem resetRegisters_cfgAddr : s.resetRegisters.cfgAddr = s.cfgPort.addr := rfl
@[simp] theorem resetRegisters_cfgInterval : s.resetRegisters.cfgInterval = s.cfgPort.interval := rfl
@[simp] theorem resetRegisters_cfgPressure : s.resetRegisters.cfgPressure = s.cfgPort.pressure := rfl
@[simp] theorem resetRegisters_cfgPollElapsed : s.resetRegisters.cfgPollElapsed = s.cfgPort.pollElapsed := rfl
@[simp] theorem resetRegisters_state : s.resetRegisters.state = Code.initInterval := rfl
@[simp] theorem resetRegisters_stall : s.resetRegisters.stall = 0#17 := rfl
@[simp] theorem resetRegisters_devInterval : s.resetRegisters.devInterval = none := rfl
@[simp] theorem resetRegisters_tempOffset : s.resetRegisters.tempOffset = none := rfl
@[simp] theorem resetRegisters_flags : s.resetRegisters.flags = 0#4 := rfl
@[simp] theorem resetRegisters_errKind : s.resetRegisters.errKind = 0#2 := rfl
@[simp] theorem resetRegisters_errExpected : s.resetRegisters.errExpected = 0#8 := rfl
@[simp] theorem resetRegisters_errActual : s.resetRegisters.errActual = 0#8 := rfl
@[simp] theorem resetRegisters_errState : s.resetRegisters.errState = 0#3 := rfl
@[simp] theorem resetRegisters_measCo2 : s.resetRegisters.measCo2 = none := rfl
@[simp] theorem resetRegisters_measT : s.resetRegisters.measT = none := rfl
@[simp] theorem resetRegisters_measRh : s.resetRegisters.measRh = none := rfl
@[simp] theorem resetRegisters_crc : s.resetRegisters.crc = Config.freeCrc s.draws := rfl
@[simp] theorem resetRegisters_txbuf : s.resetRegisters.txbuf = (Config.freeTxbuf s.draws).take 5 := rfl
@[simp] theorem resetRegisters_rxbuf : s.resetRegisters.rxbuf = (Config.freeRxbuf s.draws).take 18 := rfl
@[simp] theorem resetRegisters_cfgPort : s.resetRegisters.cfgPort = s.cfgPort := rfl
@[simp] theorem resetRegisters_rst : s.resetRegisters.rst = false := rfl
@[simp] theorem resetRegisters_fnQueue : s.resetRegisters.fnQueue = s.fnQueue := rfl
@[simp] theorem resetRegisters_fnResp : s.resetRegisters.fnResp = none := rfl
@[simp] theorem resetRegisters_trWrites : s.resetRegisters.trWrites = s.trWrites := rfl
@[simp] theorem resetRegisters_trReads : s.resetRegisters.trReads = s.trReads := rfl
@[simp] theorem resetRegisters_inFlight : s.resetRegisters.inFlight = none := rfl
@[simp] theorem resetRegisters_trace : s.resetRegisters.trace = s.trace := rfl
@[simp] theorem resetRegisters_cmdSlot : s.resetRegisters.cmdSlot = none := rfl
@[simp] theorem resetRegisters_cmdResult : s.resetRegisters.cmdResult = none := rfl
@[simp] theorem resetRegisters_draws : s.resetRegisters.draws = s.draws + 1 := rfl

end Sys2Proof.Machine
end

