-- ==== Sys2Proof/Laws/Ops.lean ====
section
/-! SUPPORT. For each shared operation, what it can do, said once: the transport and XFER, the decode of a response, taking an error, a
transaction that hangs, fetching. -/

namespace Sys2Proof.Machine

/-! ### The transport -/

theorem writeUnanswered_iff (s : State) : writeUnanswered s = true ↔ trWriteAnswer s = .never := by
  unfold writeUnanswered trWriteAnswer
  rcases s.trWrites with _ | ⟨a, _⟩
  · cases Config.transportWriteOk s.draws <;> simp
  · cases a <;> simp

theorem exactLength_bytes {n : Nat} {bs cs : List Byte} (h : exactLength n bs = .bytes cs) : cs = bs ∧ cs.length = n := by
  unfold exactLength at h
  split at h
  · injection h with h; subst h; exact ⟨rfl, ‹_›⟩
  · cases h

theorem exactLength_ne_never (n : Nat) (bs : List Byte) : exactLength n bs ≠ .never := by
  unfold exactLength; split <;> simp

/-- R52: an Ok answer to a read has exactly the length asked for. -/
theorem trReadAnswer_length {n : Nat} {s : State} {bs : List Byte} (h : trReadAnswer n s = .bytes bs) : bs.length = n := by
  unfold trReadAnswer at h
  split at h
  · exact (exactLength_bytes h).2
  · cases h
  · cases h
  · split at h
    · exact (exactLength_bytes h).2
    · cases h

theorem readUnanswered_iff (n : Nat) (s : State) : readUnanswered s = true ↔ trReadAnswer n s = .never := by
  unfold readUnanswered trReadAnswer
  split
  · simp_all
  · split
    · simp [exactLength_ne_never]
    · simp
    · simp_all
    · split <;> simp [exactLength_ne_never]

/-- R211: the machine's test for a hung transaction says what `Unanswered` says. -/
theorem xferUnanswered_iff (n : Nat) (s : State) : xferUnanswered n s = true ↔ Unanswered n s := by
  simp only [xferUnanswered, Unanswered, Bool.or_eq_true, Bool.and_eq_true, writeUnanswered_iff, readUnanswered_iff n,
    bne_iff_ne, beq_iff_eq]
  tauto

/-- An operation that runs a command always has a next state: blocked in the unanswered transaction, or done. -/
theorem runTransaction_next {frame : List Byte} {n : Nat} {after : State → State} {s t : State} :
    runTransaction frame n after s = .next t ↔
      (Unanswered n s ∧ t = s.hang frame n) ∨ (¬ Unanswered n s ∧ t = after (s.transact frame n)) := by
  rw [← xferUnanswered_iff, runTransaction, Host.Outcome.next.injEq]
  cases xferUnanswered n s <;> simp [eq_comm]

theorem runTransaction_done {frame : List Byte} {n : Nat} {after : State → State} {s : State} (h : ¬ Unanswered n s) :
    runTransaction frame n after s = .next (after (s.transact frame n)) :=
  runTransaction_next.2 (.inr ⟨h, rfl⟩)

theorem runTransaction_hung {frame : List Byte} {n : Nat} {after : State → State} {s : State} (h : Unanswered n s) :
    runTransaction frame n after s = .next (s.hang frame n) :=
  runTransaction_next.2 (.inl ⟨h, rfl⟩)

/-- R211: what a command that hangs leaves. -/
theorem hang_leaves {frame : List Byte} {n : Nat} {s : State} (h : Unanswered n s) :
    SameRegisters s (s.hang frame n) ∧ SameHostPorts s (s.hang frame n) ∧
    ((trWriteAnswer s = .never ∧ (s.hang frame n).inFlight = some (.write s.cfgAddr frame) ∧
        (s.hang frame n).trace = s.trace ∧ (s.hang frame n).trReads = s.trReads) ∨
     (n ≠ 0 ∧ trWriteAnswer s = .ok ∧ (s.hang frame n).inFlight = some (.read s.cfgAddr n) ∧
        (s.hang frame n).trace = s.trace ++ [.write s.cfgAddr frame true] ∧ (s.hang frame n).trReads = s.trReads.tail)) := by
  refine ⟨by constructor <;> rfl, by constructor <;> rfl, ?_⟩
  rcases h with hw | ⟨hn, hw, -⟩
  · exact .inl (by simp [(writeUnanswered_iff s).2 hw, hw])
  · have h0 : writeUnanswered s = false := by
      rw [← Bool.not_eq_true, writeUnanswered_iff, hw]
      simp
    exact .inr (by simp [h0, hw, hn])

/-- R56: the frame lengths. -/
theorem cmd2_length (hi lo : Byte) : (cmd2 hi lo).length = 2 := rfl
theorem cmd5_length (hi lo : Byte) (a : U16) : (cmd5 hi lo a).length = 5 := rfl

/-- What a command of a legal frame and read length is blocked in is a legal transaction (R21, R56). -/
theorem hang_legal {frame : List Byte} {n : Nat} {s : State} (h : Unanswered n s)
    (hf : frame.length = 2 ∨ frame.length = 5) (hn : n = 0 ∨ n = 3 ∨ n = 18) :
    ∀ x, (s.hang frame n).inFlight = some x → LegalTransaction (s.hang frame n) x := by
  intro x hx
  rcases (hang_leaves (frame := frame) h).2.2 with ⟨-, hi, -⟩ | ⟨h0, -, hi, -⟩ <;> rw [hi] at hx <;> cases hx
  · exact ⟨rfl, hf⟩
  · exact ⟨rfl, hn.resolve_left h0⟩

/-! ### XFER -/

/-- XFER after a failed write: no read, IoError (R121). -/
theorem xfer_writeFailed {s : State} (n : Nat) (frame : List Byte) (h : trWriteAnswer s = .ioError) :
    xferResult n s = .error .ioError ∧ readIssued n s = false ∧
    xferEvents frame n s = [.write s.cfgAddr frame false] := by
  simp [xferResult, readIssued, xferEvents, h]

/-- XFER with read length 0: one write, no read (R121). -/
theorem xfer_sent {s : State} (frame : List Byte) (h : trWriteAnswer s = .ok) :
    xferResult 0 s = .ok [] ∧ readIssued 0 s = false ∧ xferEvents frame 0 s = [.write s.cfgAddr frame true] := by
  simp [xferResult, readIssued, xferEvents, h]

/-- XFER whose read fails: nothing is decoded (R121). -/
theorem xfer_readFailed {s : State} {n : Nat} (frame : List Byte) (hn : n ≠ 0) (h : trWriteAnswer s = .ok)
    (hr : trReadAnswer n s = .ioError) :
    xferResult n s = .error .ioError ∧ readIssued n s = true ∧
    xferEvents frame n s = [.write s.cfgAddr frame true, .read s.cfgAddr n none] := by
  simp [xferResult, readIssued, xferEvents, readBytes, h, hr, hn]

/-- XFER whose read is answered: the bytes (R121). -/
theorem xfer_answered {s : State} {n : Nat} {bs : List Byte} (frame : List Byte) (hn : n ≠ 0)
    (h : trWriteAnswer s = .ok) (hr : trReadAnswer n s = .bytes bs) :
    xferResult n s = .ok bs ∧ readIssued n s = true ∧
    xferEvents frame n s = [.write s.cfgAddr frame true, .read s.cfgAddr n (some bs)] := by
  simp [xferResult, readIssued, xferEvents, readBytes, h, hr, hn]

/-! ### Commands -/

/-- What a word command's answer gives, all three ways of failing included. -/
theorem wordResult_of_fails {frame : List Byte} {s : State} {e : CoreError} {evs : List Event}
    (h : WordFails frame s e evs) :
    ¬ Unanswered 3 s ∧ wordResult s = .error e ∧ xferEvents frame 3 s = evs ∧
      (readIssued 3 s = true ↔ readsIn evs = 1) := by
  rcases h with ⟨hw, rfl, rfl⟩ | ⟨hw, hr, rfl, rfl⟩ | ⟨b0, b1, b2, hw, hr, hc, rfl, rfl⟩
  · obtain ⟨h1, h2, h3⟩ := xfer_writeFailed 3 frame hw
    simp [wordResult, h1, h2, h3, Unanswered, hw, readsIn]
  · obtain ⟨h1, h2, h3⟩ := xfer_readFailed frame (n := 3) (by decide) hw hr
    simp [wordResult, h1, h2, h3, Unanswered, hw, hr, readsIn]
  · obtain ⟨h1, h2, h3⟩ := xfer_answered frame (n := 3) (by decide) hw hr
    refine ⟨by simp [Unanswered, hw, hr], ?_, h3, by simp [h2, readsIn]⟩
    simp only [wordResult, h1]
    exact unpackWord_error (u := unitAt [b0, b1, b2] 0) hc

theorem wordResult_of_answers {frame : List Byte} {s : State} {v : U16} {evs : List Event}
    (h : WordAnswers frame s v evs) :
    ¬ Unanswered 3 s ∧ wordResult s = .ok v ∧ xferEvents frame 3 s = evs ∧
      (readIssued 3 s = true ↔ readsIn evs = 1) := by
  obtain ⟨b0, b1, b2, hw, hr, hc, rfl, rfl⟩ := h
  obtain ⟨h1, h2, h3⟩ := xfer_answered frame (n := 3) (by decide) hw hr
  refine ⟨by simp [Unanswered, hw, hr], ?_, h3, by simp [h2, readsIn]⟩
  simp only [wordResult, h1]
  exact unpackWord_ok (u := unitAt [b0, b1, b2] 0) hc

theorem sendResult_of_fails {frame : List Byte} {s : State} {evs : List Event} (h : SendFails frame s evs) :
    ¬ Unanswered 0 s ∧ sendResult s = .error .ioError ∧ xferEvents frame 0 s = evs ∧ readIssued 0 s = false := by
  obtain ⟨hw, rfl⟩ := h
  obtain ⟨h1, h2, h3⟩ := xfer_writeFailed 0 frame hw
  simp [sendResult, h1, h2, h3, Unanswered, hw]

theorem sendResult_of_succeeds {frame : List Byte} {s : State} {evs : List Event} (h : SendSucceeds frame s evs) :
    ¬ Unanswered 0 s ∧ sendResult s = .ok () ∧ xferEvents frame 0 s = evs ∧ readIssued 0 s = false := by
  obtain ⟨hw, rfl⟩ := h
  obtain ⟨h1, h2, h3⟩ := xfer_sent frame hw
  simp [sendResult, h1, h2, h3, Unanswered, hw]

/-- Two valid units read as one pattern, at any place of a response (R82, R111). -/
theorem unpackFloat_ok {h l : WireUnit} (hh : UnitValid h) (hl : UnitValid l) :
    unpackFloat h l = .ok (h.b0 ++ h.b1 ++ l.b0 ++ l.b1) := by
  simp [unpackFloat, unpackBytes_ok hh, unpackBytes_ok hl]

theorem unpackFloat_highBad {h : WireUnit} (l : WireUnit) (hh : ¬ UnitValid h) :
    unpackFloat h l = .error (.crcMismatch (crc8 h.b0 h.b1) h.b2) := by
  simp [unpackFloat, unpackBytes_error hh]

theorem unpackFloat_lowBad {h l : WireUnit} (hh : UnitValid h) (hl : ¬ UnitValid l) :
    unpackFloat h l = .error (.crcMismatch (crc8 l.b0 l.b1) l.b2) := by
  simp [unpackFloat, unpackBytes_ok hh, unpackBytes_error hl]

/-- READ_MEAS's decode of six units is the decode of its three pairs (R73, R128). -/
theorem readFloat_sixUnits (u0 u1 u2 u3 u4 u5 : WireUnit) :
    readFloat (sixUnits u0 u1 u2 u3 u4 u5) 0 = unpackFloat u0 u1 ∧
    readFloat (sixUnits u0 u1 u2 u3 u4 u5) 6 = unpackFloat u2 u3 ∧
    readFloat (sixUnits u0 u1 u2 u3 u4 u5) 12 = unpackFloat u4 u5 := ⟨rfl, rfl, rfl⟩

theorem decodeMeas_ok {u0 u1 u2 u3 u4 u5 : WireUnit} (h : ∀ u ∈ [u0, u1, u2, u3, u4, u5], UnitValid u) :
    decodeMeas (sixUnits u0 u1 u2 u3 u4 u5) =
      .ok (u0.b0 ++ u0.b1 ++ u1.b0 ++ u1.b1, u2.b0 ++ u2.b1 ++ u3.b0 ++ u3.b1, u4.b0 ++ u4.b1 ++ u5.b0 ++ u5.b1) := by
  simp only [List.mem_cons, List.not_mem_nil, or_false, forall_eq_or_imp, forall_eq] at h
  obtain ⟨h0, h1, h2, h3, h4, h5⟩ := h
  obtain ⟨r0, r1, r2⟩ := readFloat_sixUnits u0 u1 u2 u3 u4 u5
  simp [decodeMeas, r0, r1, r2, unpackFloat_ok h0 h1, unpackFloat_ok h2 h3, unpackFloat_ok h4 h5]

/-- The first invalid unit of six, by its place. -/
theorem firstInvalid_six {u0 u1 u2 u3 u4 u5 u : WireUnit} (h : FirstInvalid [u0, u1, u2, u3, u4, u5] u) :
    ¬ UnitValid u ∧
    (u = u0 ∨ UnitValid u0 ∧ (u = u1 ∨ UnitValid u1 ∧ (u = u2 ∨ UnitValid u2 ∧ (u = u3 ∨ UnitValid u3 ∧
      (u = u4 ∨ UnitValid u4 ∧ u = u5))))) := by
  obtain ⟨before, after, he, hv, hu⟩ := h
  refine ⟨hu, ?_⟩
  rcases before with _ | ⟨a, _ | ⟨b, _ | ⟨c, _ | ⟨d, _ | ⟨e, _ | ⟨f, _⟩⟩⟩⟩⟩⟩ <;>
    simp_all

theorem decodeMeas_error {u0 u1 u2 u3 u4 u5 u : WireUnit} (h : FirstInvalid [u0, u1, u2, u3, u4, u5] u) :
    decodeMeas (sixUnits u0 u1 u2 u3 u4 u5) = .error (.crcMismatch (crc8 u.b0 u.b1) u.b2) := by
  obtain ⟨hu, h⟩ := firstInvalid_six h
  obtain ⟨r0, r1, r2⟩ := readFloat_sixUnits u0 u1 u2 u3 u4 u5
  simp only [decodeMeas, r0, r1, r2]
  rcases h with rfl | ⟨h0, rfl | ⟨h1, rfl | ⟨h2, rfl | ⟨h3, rfl | ⟨h4, rfl⟩⟩⟩⟩⟩
  · simp [unpackFloat_highBad _ hu]
  · simp [unpackFloat_lowBad h0 hu]
  · simp [unpackFloat_ok h0 h1, unpackFloat_highBad _ hu]
  · simp [unpackFloat_ok h0 h1, unpackFloat_lowBad h2 hu]
  · simp [unpackFloat_ok h0 h1, unpackFloat_ok h2 h3, unpackFloat_highBad _ hu]
  · simp [unpackFloat_ok h0 h1, unpackFloat_ok h2 h3, unpackFloat_lowBad h4 hu]

theorem measResult_of_fails {s : State} {e : CoreError} {evs : List Event} (h : MeasFails s e evs) :
    ¬ Unanswered 18 s ∧ measResult s = .error e ∧ xferEvents readMeasFrame 18 s = evs ∧
      (readIssued 18 s = true ↔ readsIn evs = 1) := by
  rcases h with ⟨hw, rfl, rfl⟩ | ⟨hw, hr, rfl, rfl⟩ | ⟨u0, u1, u2, u3, u4, u5, u, hw, hr, hc, rfl, rfl⟩
  · obtain ⟨h1, h2, h3⟩ := xfer_writeFailed 18 readMeasFrame hw
    exact ⟨by simp [Unanswered, hw], by simp [measResult, h1], h3, by simp [h2, readsIn]⟩
  · obtain ⟨h1, h2, h3⟩ := xfer_readFailed readMeasFrame (n := 18) (by decide) hw hr
    exact ⟨by simp [Unanswered, hw, hr], by simp [measResult, h1], h3, by simp [h2, readsIn]⟩
  · obtain ⟨h1, h2, h3⟩ := xfer_answered readMeasFrame (n := 18) (by decide) hw hr
    exact ⟨by simp [Unanswered, hw, hr], by simp [measResult, h1, decodeMeas_error hc], h3, by simp [h2, readsIn]⟩

theorem measResult_of_answers {s : State} {c t h : U32} {evs : List Event} (hm : MeasAnswers s c t h evs) :
    ¬ Unanswered 18 s ∧ measResult s = .ok (c, t, h) ∧ xferEvents readMeasFrame 18 s = evs ∧
      (readIssued 18 s = true ↔ readsIn evs = 1) := by
  obtain ⟨u0, u1, u2, u3, u4, u5, hw, hr, hv, rfl, rfl, rfl, rfl⟩ := hm
  obtain ⟨h1, h2, h3⟩ := xfer_answered readMeasFrame (n := 18) (by decide) hw hr
  exact ⟨by simp [Unanswered, hw, hr], by simp [measResult, h1, decodeMeas_ok hv], h3, by simp [h2, readsIn]⟩

/-! ### The phases -/

@[simp] theorem isStartup_initInterval : isStartup Code.initInterval = true := rfl
@[simp] theorem isStartup_initSet : isStartup Code.initSet = true := rfl
@[simp] theorem isStartup_initOffset : isStartup Code.initOffset = true := rfl
@[simp] theorem isStartup_checkingReady : isStartup Code.checkingReady = false := rfl
@[simp] theorem isStartup_reading : isStartup Code.reading = false := rfl
@[simp] theorem isStartup_stalled : isStartup Code.stalled = false := rfl

/-! ### Fetching -/

/-- A step with no reset waiting and no transaction unanswered is exec of the fetched operation, or the refusal of what stands for
none. -/
theorem step_eq {s : State} (h : s.rst = false) (hf : s.inFlight = none) :
    step s = match decode (fetchContainer s) with
      | .ok i => exec i s
      | .error e => .refused (refusalOf e) := by
  simp only [step, h, hf, fetch]
  cases decode (fetchContainer s) <;> simp

theorem step_reset {s : State} (h : s.rst = true) : step s = takeReset s := by simp [step, h]

/-- R211: no step but a reset while a transaction is unanswered. -/
theorem step_blocked {s : State} (h : s.rst = false) (hf : s.inFlight ≠ none) : step s = .fault .transactionUnanswered := by
  simp [step, h, Option.isSome_iff_ne_none.2 hf]

/-- On the sequencer's turn the step is the state-step of STATE. -/
theorem step_sequencer {s : State} (h : SequencerTurn s) : step s = exec (decodeState s.state) s := by
  rw [step_eq h.rst h.inFlight]
  simp [fetchContainer, h.cmdSlot, h.fnQueue, decode]

end Sys2Proof.Machine
end

