-- ==== Sys2Proof/Laws/PerInstr.lean ====
section
/-! SUPPORT. Family TableRow: every operation is encoded by its own row of the opcode table, whatever its operands. -/

namespace Sys2Proof.Laws.TableRow

/-- The encoding of `i` is a container of its row's format whose table word fits the row's width and matches its pattern under its
mask (R75, R78, R79). -/
def Statement (i : Instr) : Prop :=
  ∃ w, tableWord (encode i) = some (i.row.format, w) ∧ w < 2 ^ i.row.width ∧ w &&& i.row.mask = i.row.pattern

/-- A CMD5 word matched under the mask that keeps its two command bytes (R72, R75). -/
theorem cmd5_word (h l a1 a0 c : Byte) :
    (h ++ l ++ a1 ++ a0 ++ c).toNat &&& 0xFFFF000000 = (h ++ l ++ 0#8 ++ 0#8 ++ 0#8).toNat := by
  have m : (h ++ l ++ a1 ++ a0 ++ c) &&& 0xFFFF000000#40 = h ++ l ++ 0#8 ++ 0#8 ++ 0#8 := by
    apply BitVec.eq_of_getLsbD_eq
    intro i hi
    have e : ∀ i < 40, (0xFFFF000000#40).getLsbD i = decide (24 ≤ i) := by decide
    simp only [BitVec.getLsbD_and, e i hi, BitVec.getLsbD_append]
    by_cases h1 : i < 8 <;> by_cases h2 : i - 8 < 8 <;> by_cases h3 : i - 8 - 8 < 8 <;> simp [h1, h2, h3] <;> omega
  rw [← m, BitVec.toNat_and]
  rfl

theorem crc8 (b0 b1 : Byte) : Statement (.crc8 b0 b1) := ⟨0, rfl, by simp [Instr.row], by simp [Instr.row]⟩
theorem packWord (v : U16) : Statement (.packWord v) := ⟨1, rfl, by simp [Instr.row], by simp [Instr.row]⟩
theorem unpackWord (u : WireUnit) : Statement (.unpackWord u) := ⟨2, rfl, by simp [Instr.row], by simp [Instr.row]⟩
theorem unpackBytes (u : WireUnit) : Statement (.unpackBytes u) := ⟨3, rfl, by simp [Instr.row], by simp [Instr.row]⟩
theorem unpackFloat (h l : WireUnit) : Statement (.unpackFloat h l) := ⟨4, rfl, by simp [Instr.row], by simp [Instr.row]⟩
theorem getReady : Statement .getReady := ⟨0x0202, rfl, by simp [Instr.row], by simp [Instr.row]⟩
theorem getInterval : Statement .getInterval := ⟨0x4600, rfl, by simp [Instr.row], by simp [Instr.row]⟩
theorem setInterval (a : U16) (c : Byte) : Statement (.setInterval a c) :=
  ⟨_, rfl, BitVec.isLt _, cmd5_word 0x46#8 0x00#8 _ _ c⟩
theorem getTempOffset : Statement .getTempOffset := ⟨0x5403, rfl, by simp [Instr.row], by simp [Instr.row]⟩
theorem triggerCont (a : U16) (c : Byte) : Statement (.triggerCont a c) :=
  ⟨_, rfl, BitVec.isLt _, cmd5_word 0x00#8 0x10#8 _ _ c⟩
theorem readMeas : Statement .readMeas := ⟨0x0300, rfl, by simp [Instr.row], by simp [Instr.row]⟩
theorem checkingReady : Statement .checkingReady := ⟨0, rfl, by simp [Instr.row], by simp [Instr.row]⟩
theorem reading : Statement .reading := ⟨1, rfl, by simp [Instr.row], by simp [Instr.row]⟩
theorem waiting : Statement .waiting := ⟨2, rfl, by simp [Instr.row], by simp [Instr.row]⟩
theorem stalled : Statement .stalled := ⟨3, rfl, by simp [Instr.row], by simp [Instr.row]⟩
theorem initInterval : Statement .initInterval := ⟨4, rfl, by simp [Instr.row], by simp [Instr.row]⟩
theorem initSet : Statement .initSet := ⟨5, rfl, by simp [Instr.row], by simp [Instr.row]⟩
theorem initOffset : Statement .initOffset := ⟨6, rfl, by simp [Instr.row], by simp [Instr.row]⟩
theorem halted : Statement .halted := ⟨7, rfl, by simp [Instr.row], by simp [Instr.row]⟩

end Sys2Proof.Laws.TableRow
end

