-- ==== Sys2Proof/Laws/Step.lean ====
section
/-! SUPPORT. What a step can do, said once: a reset, an answer at the function port, a command run by itself, or one of the eight
state-steps. Every invariant is derived from this. -/

namespace Sys2Proof.Machine

/-- Every value of STATE is one of the eight codes (R25). -/
theorem state_codes : ∀ c : BitVec 3, c = 4#3 ∨ c = 5#3 ∨ c = 6#3 ∨ c = 0#3 ∨ c = 1#3 ∨ c = 2#3 ∨ c = 3#3 ∨ c = 7#3 := by
  decide

/-- The next state of a state-step, by the value of STATE (R141 to R148); or the core blocked in the step's command (R211). -/
inductive StateStep (s t : State) : Prop where
  | initInterval (h : s.state = 4#3) (answered : ¬ Unanswered 3 s)
      (next : t = initIntervalAfter (wordResult s) (s.transact getIntervalFrame 3))
  | initSet (h : s.state = 5#3) (answered : ¬ Unanswered 0 s)
      (next : t = initSetAfter (sendResult s) (s.transact (setIntervalFrame s.cfgInterval) 0))
  | initOffset (h : s.state = 6#3) (answered : ¬ Unanswered 3 s)
      (next : t = initOffsetAfter (wordResult s) (s.transact getTempOffsetFrame 3))
  | checkingReady (h : s.state = 0#3) (answered : ¬ Unanswered 3 s)
      (next : t = checkingReadyAfter (wordResult s) (s.transact getReadyFrame 3))
  | reading (h : s.state = 1#3) (answered : ¬ Unanswered 18 s)
      (next : t = readingAfter (measResult s) (s.transact readMeasFrame 18))
  | waiting (h : s.state = 2#3)
      (next : t = { s with state := if s.stall ≤ s.cfgInterval.setWidth 17 then Code.checkingReady else Code.stalled })
  | stalled (h : s.state = 3#3) (answered : ¬ Unanswered 0 s)
      (next : t = stalledAfter (sendResult s) (s.transact (triggerContFrame s.cfgPressure) 0))
  | halted (h : s.state = 7#3) (next : t = s)
  | hung (frame : List Byte) (n : Nat)
      (command : (s.state = 4#3 ∧ frame = getIntervalFrame ∧ n = 3) ∨
        (s.state = 5#3 ∧ frame = setIntervalFrame s.cfgInterval ∧ n = 0) ∨
        (s.state = 6#3 ∧ frame = getTempOffsetFrame ∧ n = 3) ∨ (s.state = 0#3 ∧ frame = getReadyFrame ∧ n = 3) ∨
        (s.state = 1#3 ∧ frame = readMeasFrame ∧ n = 18) ∨
        (s.state = 3#3 ∧ frame = triggerContFrame s.cfgPressure ∧ n = 0))
      (unanswered : Unanswered n s) (next : t = s.hang frame n)

/-- On the sequencer's turn a step that has a next state is one of the eight, or is blocked in its command. -/
theorem stateStep_of_step {s t : State} (h : SequencerTurn s) (hs : step s = .next t) : StateStep s t := by
  rw [step_sequencer h] at hs
  rcases state_codes s.state with e | e | e | e | e | e | e | e <;> rw [e] at hs
  · rcases runTransaction_next.1 (show runTransaction _ 3 _ s = .next t from hs) with ⟨hu, rfl⟩ | ⟨hu, rfl⟩
    · exact .hung _ _ (by simp [e]) hu rfl
    · exact .initInterval e hu rfl
  · rcases runTransaction_next.1 (show runTransaction _ 0 _ s = .next t from hs) with ⟨hu, rfl⟩ | ⟨hu, rfl⟩
    · exact .hung _ _ (by simp [e]) hu rfl
    · exact .initSet e hu rfl
  · rcases runTransaction_next.1 (show runTransaction _ 3 _ s = .next t from hs) with ⟨hu, rfl⟩ | ⟨hu, rfl⟩
    · exact .hung _ _ (by simp [e]) hu rfl
    · exact .initOffset e hu rfl
  · rcases runTransaction_next.1 (show runTransaction _ 3 _ s = .next t from hs) with ⟨hu, rfl⟩ | ⟨hu, rfl⟩
    · exact .hung _ _ (by simp [e]) hu rfl
    · exact .checkingReady e hu rfl
  · rcases runTransaction_next.1 (show runTransaction _ 18 _ s = .next t from hs) with ⟨hu, rfl⟩ | ⟨hu, rfl⟩
    · exact .hung _ _ (by simp [e]) hu rfl
    · exact .reading e hu rfl
  · cases hs
    exact .waiting e rfl
  · rcases runTransaction_next.1 (show runTransaction _ 0 _ s = .next t from hs) with ⟨hu, rfl⟩ | ⟨hu, rfl⟩
    · exact .hung _ _ (by simp [e]) hu rfl
    · exact .stalled e hu rfl
  · refine .halted e ?_
    have hs : Host.Outcome.next ({ s with state := Code.halted } : State) = .next t := hs
    cases hs
    cases s
    simp_all

/-- What a step is: the turn of the reset, of the function port, of a command run by itself, done or blocked, or of the sequencer. -/
inductive StepKind (s t : State) : Prop where
  | reset (h : s.rst = true) (addr : s.cfgPort.addr = Config.addr) (elapsed : s.cfgPort.pollElapsed ≠ 0#16)
      (next : t = s.resetRegisters)
  | port (h : s.rst = false) (flight : s.inFlight = none) (slot : s.cmdSlot = none) (queue : s.fnQueue ≠ [])
      (r : Except CoreError U32) (next : t = s.fnRespond r)
  | command (h : s.rst = false) (flight : s.inFlight = none) (slot : s.cmdSlot ≠ none) (frame : List Byte) (n : Nat)
      (shape : (n = 0 ∧ ∃ hi lo a, frame = cmd5 hi lo a) ∨ ((n = 3 ∨ n = 18) ∧ ∃ hi lo, frame = cmd2 hi lo))
      (next : (Unanswered n s ∧ t = s.hang frame n) ∨
        (¬ Unanswered n s ∧ ∃ r, t = (s.transact frame n).retireCommand r))
  | sequencer (turn : SequencerTurn s) (step : StateStep s t)

/-- A command frame decodes to one of the six commands (R75). -/
theorem decodeFrame_cases {bytes : List Byte} {i : Instr} (h : decodeFrame bytes = .ok i) :
    i = .getReady ∨ i = .getInterval ∨ i = .getTempOffset ∨ i = .readMeas ∨ (∃ a c, i = .setInterval a c) ∨
    (∃ a c, i = .triggerCont a c) := by
  unfold decodeFrame decodeCmd2 decodeCmd5 at h
  repeat' split at h
  all_goals cases h
  all_goals simp

/-- An FN request decodes to one of the five primitives, which answers at the port (R34, R78). -/
theorem exec_of_decodeFn {sel : BitVec 3} {x : BitVec 48} {i : Instr} (h : decodeFn sel x = .ok i) (s : State) :
    ∃ r, exec i s = .next (s.fnRespond r) := by
  unfold decodeFn at h
  repeat' split at h
  all_goals cases h
  all_goals exact ⟨_, rfl⟩

/-- Every step that has a next state is of one of the four kinds. -/
theorem stepKind_of_step {s t : State} (hs : step s = .next t) : StepKind s t := by
  cases hr : s.rst with
  | true =>
    rw [step_reset hr, takeReset] at hs
    split at hs
    · cases hs
    · split at hs
      · cases hs
      · cases hs
        exact .reset hr (by simpa using ‹¬ s.cfgPort.addr ≠ Config.addr›) ‹_› rfl
  | false =>
    have hf : s.inFlight = none := by
      by_contra hf
      rw [step_blocked hr hf] at hs
      cases hs
    cases hc : s.cmdSlot with
    | some bytes =>
      have hne : s.cmdSlot ≠ none := by simp [hc]
      rw [step_eq hr hf, fetchContainer, hc] at hs
      simp only [decode] at hs
      cases hd : decodeFrame bytes with
      | error e => simp [hd] at hs
      | ok i =>
        rw [hd] at hs
        rcases decodeFrame_cases hd with rfl | rfl | rfl | rfl | ⟨a, c, rfl⟩ | ⟨a, c, rfl⟩
        · exact .command hr hf hne _ _ (.inr ⟨.inl rfl, _, _, rfl⟩)
            ((runTransaction_next.1 (show runTransaction _ 3 (State.retireCommand _) s = .next t from hs)).imp_right
              fun h => ⟨h.1, _, h.2⟩)
        · exact .command hr hf hne _ _ (.inr ⟨.inl rfl, _, _, rfl⟩)
            ((runTransaction_next.1 (show runTransaction _ 3 (State.retireCommand _) s = .next t from hs)).imp_right
              fun h => ⟨h.1, _, h.2⟩)
        · exact .command hr hf hne _ _ (.inr ⟨.inl rfl, _, _, rfl⟩)
            ((runTransaction_next.1 (show runTransaction _ 3 (State.retireCommand _) s = .next t from hs)).imp_right
              fun h => ⟨h.1, _, h.2⟩)
        · exact .command hr hf hne _ _ (.inr ⟨.inr rfl, _, _, rfl⟩)
            ((runTransaction_next.1 (show runTransaction _ 18 (State.retireCommand _) s = .next t from hs)).imp_right
              fun h => ⟨h.1, _, h.2⟩)
        · exact .command hr hf hne _ _ (.inl ⟨rfl, _, _, _, rfl⟩)
            ((runTransaction_next.1 (show runTransaction _ 0 (State.retireCommand _) s = .next t from hs)).imp_right
              fun h => ⟨h.1, _, h.2⟩)
        · exact .command hr hf hne _ _ (.inl ⟨rfl, _, _, _, rfl⟩)
            ((runTransaction_next.1 (show runTransaction _ 0 (State.retireCommand _) s = .next t from hs)).imp_right
              fun h => ⟨h.1, _, h.2⟩)
    | none =>
      cases hq : s.fnQueue with
      | nil => exact .sequencer ⟨hr, hf, hc, hq⟩ (stateStep_of_step ⟨hr, hf, hc, hq⟩ hs)
      | cons q rest =>
        rw [step_eq hr hf, fetchContainer, hc, hq] at hs
        simp only [decode] at hs
        cases hd : decodeFn q.sel q.inp with
        | error e => simp [hd] at hs
        | ok i =>
          rw [hd] at hs
          obtain ⟨r, hx⟩ := exec_of_decodeFn hd s
          simp only [hx] at hs
          cases hs
          exact .port hr hf hc (by simp [hq]) r rfl

/-! ### The stall counter -/

/-- R160: where the counter has not passed the interval, the addition does not overflow the 17 bits. -/
theorem stall_add_toNat {s : State} (h : s.stall.toNat ≤ s.cfgInterval.toNat) :
    (s.stall + s.cfgPollElapsed.setWidth 17).toNat = s.stall.toNat + s.cfgPollElapsed.toNat := by
  have := s.cfgPollElapsed.isLt
  have := s.cfgInterval.isLt
  rw [BitVec.toNat_add, BitVec.toNat_setWidth]
  omega

/-- R145: the comparison on 17 bits is the comparison of the numbers. -/
theorem stall_le_interval (s : State) : s.stall ≤ s.cfgInterval.setWidth 17 ↔ s.stall.toNat ≤ s.cfgInterval.toNat := by
  have := s.cfgInterval.isLt
  rw [BitVec.le_def, BitVec.toNat_setWidth, Nat.mod_eq_of_lt (by omega)]

/-! ### Runs -/

/-- A run of a machine begins with its first step. -/
theorem core_run_next_iff (M : Host.Core) (k : Nat) (s t : M.State) :
    M.run (k + 1) s = .next t ↔ ∃ u, M.step s = .next u ∧ M.run k u = .next t := by
  rw [Host.Core.run]
  cases M.step s <;> simp

/-- A run whose first step stops, stops so. -/
theorem core_run_stop (M : Host.Core) (k : Nat) (s : M.State) :
    (∀ r, M.step s = .fault r → M.run (k + 1) s = .fault r) ∧
    (∀ r, M.step s = .refused r → M.run (k + 1) s = .refused r) ∧
    (∀ t, M.step s = .next t → M.run (k + 1) s = M.run k t) := by
  refine ⟨?_, ?_, ?_⟩ <;> intro _ h <;> rw [Host.Core.run, h]

theorem runs_next {k : Nat} {s t : State} (h : step s = .next t) : runs (k + 1) s = runs k t :=
  (core_run_stop core k s).2.2 t h

theorem runs_fault (k : Nat) {s : State} {r : Fault} (h : step s = .fault r) : runs (k + 1) s = .fault r :=
  (core_run_stop core k s).1 r h

theorem runs_refused (k : Nat) {s : State} {r : Refusal} (h : step s = .refused r) : runs (k + 1) s = .refused r :=
  (core_run_stop core k s).2.1 r h

/-- A run of `a` steps followed by one of `b` steps. -/
theorem runs_add {a : Nat} (b : Nat) {s t : State} (h : runs a s = .next t) : runs (a + b) s = runs b t := by
  induction a generalizing s with
  | zero => cases h; simp
  | succ a ih =>
    obtain ⟨u, h1, h2⟩ := (core_run_next_iff core a s t).1 h
    rw [show a + 1 + b = (a + b) + 1 by omega, runs_next h1]
    exact ih h2

end Sys2Proof.Machine
end

