-- ==== Sys2Proof/Tests/Slice0.lean ====
section
/-! SUPPORT. Tests: the ill-formed terms, decoding of words written out from the spec, one-step tests from the vectors of
95_test_vectors.md, and a witness for the hypotheses of every obligation. -/

namespace Sys2Proof.Tests

-- The tests evaluate in the kernel, one after another.
set_option Elab.async false

open Sys2Proof Sys2Proof.Machine

/-! ### Small states -/

/-- The machine after reset, but at `code` with this STALL and these answers to come. -/
def mk (code : BitVec 3) (stall : BitVec 17) (flags : BitVec 4) (ws : List WriteAnswer) (rs : List ReadAnswer) : State :=
  { State.reset with state := code, stall := stall, flags := flags, trWrites := ws, trReads := rs }

/-- The start of a command run by itself, its frame given as a table word. -/
def cmd (nbits w : Nat) (ws : List WriteAnswer) (rs : List ReadAnswer) : State :=
  (mk 0#3 0#17 0#4 ws rs).withFetchWord nbits w

/-- The start of a request at the function port. -/
def fn (sel : BitVec 3) (x : BitVec 48) : State := { State.reset with fnQueue := [{ sel := sel, inp := x }] }

/-- A view of the next state. -/
def after {α : Type} (view : State → α) (s : State) : Option α :=
  match step s with
  | .next t => some (view t)
  | _ => none

/-- What a state-step vector lists. -/
def regs (t : State) : BitVec 3 × BitVec 17 × BitVec 4 := (t.state, t.stall, t.flags)

/-- The error record. -/
def record (t : State) : BitVec 2 × Byte × Byte × BitVec 3 := (t.errKind, t.errExpected, t.errActual, t.errState)

/-- The response of the function port, what the rule specifies of a success. -/
def okOut (t : State) : Option (Bool × U32) := t.fnResp.map fun r => (r.ok, r.out)

/-- The response of the function port, what the rule specifies of a failure. -/
def errOut (t : State) : Option (Bool × Byte × Byte) := t.fnResp.map fun r => (r.ok, r.expected, r.actual)

/-- The 18-byte example of 95_test_vectors.md. -/
def example18 : List Byte :=
  [0x43#8, 0xDB#8, 0xCB#8, 0x8C#8, 0x2E#8, 0x8F#8, 0x41#8, 0xD9#8, 0x70#8,
   0xE7#8, 0xFF#8, 0xF5#8, 0x42#8, 0x43#8, 0xBF#8, 0x3A#8, 0x1B#8, 0x74#8]

/-- The same with the low temperature unit's CRC byte wrong (V39). -/
def bad18 : List Byte :=
  [0x43#8, 0xDB#8, 0xCB#8, 0x8C#8, 0x2E#8, 0x8F#8, 0x41#8, 0xD9#8, 0x70#8,
   0xE7#8, 0xFF#8, 0xF4#8, 0x42#8, 0x43#8, 0xBF#8, 0x3A#8, 0x1B#8, 0x74#8]

/-! ### Well-formedness -/

/-- `46 00 00 0A 5B`: the CRC byte of the argument unit is wrong (R72: it is 5A). -/
theorem test_wf_setInterval_refused : (Instr.setInterval 10#16 0x5B#8).wf = false := by decide +kernel
/-- `00 10 03 F5 DA`: the CRC byte is wrong (R72: it is DB). -/
theorem test_wf_triggerCont_refused : (Instr.triggerCont 1013#16 0xDA#8).wf = false := by decide +kernel
theorem test_wf_setInterval : (Instr.setInterval 10#16 0x5A#8).wf = true := by decide +kernel
theorem test_wf_triggerCont : (Instr.triggerCont 1013#16 0xDB#8).wf = true := by decide +kernel

/-! ### Decoding words written out from the spec (R34, R72, R75, R78, R79) -/

theorem test_decode_crc8 : decode (.fn 0b000#3 0xFFFFFFFFBEEF#48) = .ok (.crc8 0xBE#8 0xEF#8) := by decide
theorem test_decode_packWord : decode (.fn 0b001#3 0x00000000000A#48) = .ok (.packWord 10#16) := by decide
theorem test_decode_unpackWord :
    decode (.fn 0b010#3 0x00000003F5DB#48) = .ok (.unpackWord ⟨0x03#8, 0xF5#8, 0xDB#8⟩) := by decide
theorem test_decode_unpackBytes :
    decode (.fn 0b011#3 0x00000043DBCB#48) = .ok (.unpackBytes ⟨0x43#8, 0xDB#8, 0xCB#8⟩) := by decide
theorem test_decode_unpackFloat : decode (.fn 0b100#3 0x43DBCB8C2E8F#48) =
    .ok (.unpackFloat ⟨0x43#8, 0xDB#8, 0xCB#8⟩ ⟨0x8C#8, 0x2E#8, 0x8F#8⟩) := by decide
theorem test_decode_reserved : (decode (.fn 0b101#3 0#48), decode (.fn 0b111#3 0#48)) =
    (.error .reservedFnSelect, .error .reservedFnSelect) := by decide
theorem test_decode_cmd2 : [[0x02#8, 0x02#8], [0x46#8, 0x00#8], [0x54#8, 0x03#8], [0x03#8, 0x00#8]].map decodeFrame =
    [.ok .getReady, .ok .getInterval, .ok .getTempOffset, .ok .readMeas] := by decide
theorem test_decode_cmd5 :
    [[0x46#8, 0x00#8, 0x07#8, 0x08#8, 0x96#8], [0x00#8, 0x10#8, 0x03#8, 0xF5#8, 0xDB#8]].map decodeFrame =
    [.ok (.setInterval 1800#16 0x96#8), .ok (.triggerCont 1013#16 0xDB#8)] := by decide
/-- Neither a 2-byte form of TRIGGER_CONT nor a 5-byte form of GET_READY is a frame (R76). -/
theorem test_decode_frame_refused : [[0x00#8, 0x10#8], [0x02#8, 0x02#8, 0x00#8, 0x00#8, 0x81#8], []].map decodeFrame =
    [.error .unknownFrame, .error .unknownFrame, .error .unknownFrame] := by decide
theorem test_decode_state :
    ([0b000#3, 0b001#3, 0b010#3, 0b011#3, 0b100#3, 0b101#3, 0b110#3, 0b111#3].map fun c => decode (.state c)) =
    [.ok .checkingReady, .ok .reading, .ok .waiting, .ok .stalled, .ok .initInterval, .ok .initSet, .ok .initOffset,
      .ok .halted] := by decide
/-- Table words as spec/opcode_table.json numbers them. -/
theorem test_decodeTableWord : (decodeTableWord 16 0x0202, decodeTableWord 40 0x460000025A, decodeTableWord 8 7) =
    (some .getReady, some (.setInterval 2#16 0x5A#8), some .halted) := by decide

/-! ### Codec primitives at the function port (95_test_vectors.md 2.1 to 2.3) -/

theorem test_crc8_pinned : after okOut (fn 0#3 0xFFFFFFFF0000#48) = some (some (true, 0x00000081#32)) := by decide +kernel
theorem test_crc8_beef : after okOut (fn 0#3 0x00000000BEEF#48) = some (some (true, 0x00000092#32)) := by decide +kernel
theorem test_packWord : after okOut (fn 1#3 0x00000000000A#48) = some (some (true, 0x00000A5A#32)) := by decide +kernel
theorem test_unpackWord : after okOut (fn 2#3 0x000000000A5A#48) = some (some (true, 0x0000000A#32)) := by decide +kernel
/-- The data bytes of `00 0A 5A` swapped. -/
theorem test_unpackWord_bad : after errOut (fn 2#3 0x0000000A005A#48) = some (some (false, 0x6F#8, 0x5A#8)) := by
  decide +kernel
theorem test_unpackBytes : after okOut (fn 3#3 0x00000043DBCB#48) = some (some (true, 0x000043DB#32)) := by decide +kernel
theorem test_unpackBytes_bad : after errOut (fn 3#3 0x000000FF00FF#48) = some (some (false, 0x00#8, 0xFF#8)) := by
  decide +kernel
theorem test_unpackFloat : after okOut (fn 4#3 0x43DBCB8C2E8F#48) = some (some (true, 0x43DB8C2E#32)) := by decide +kernel
/-- Both units bad: the high unit is reported. -/
theorem test_unpackFloat_bad : after errOut (fn 4#3 0x43DBCA8C2E8E#48) = some (some (false, 0xCB#8, 0xCA#8)) := by
  decide +kernel

/-! ### Commands (95_test_vectors.md 2.4) -/

theorem test_getReady :
    after State.cmdResult (cmd 16 0x0202 [.ok] [.bytes [0x00#8, 0x01#8, 0xB0#8]]) = some (some (.word 1#16)) := by
  decide +kernel
/-- The write fails: no read event. -/
theorem test_getReady_writeFails : after (fun t => (t.cmdResult, t.trace)) (cmd 16 0x0202 [.ioError] []) =
    some (some (.err .ioError), [.write 0x61#7 [0x02#8, 0x02#8] false]) := by decide +kernel
theorem test_getInterval :
    after State.cmdResult (cmd 16 0x4600 [.ok] [.bytes [0x07#8, 0x08#8, 0x96#8]]) = some (some (.word 1800#16)) := by
  decide +kernel
theorem test_getInterval_bad : after State.cmdResult (cmd 16 0x4600 [.ok] [.bytes [0x00#8, 0x0A#8, 0x5B#8]]) =
    some (some (.err (.crcMismatch 0x5A#8 0x5B#8))) := by decide +kernel
theorem test_setInterval : after (fun t => (t.cmdResult, t.trace)) (cmd 40 0x4600070896 [.ok] []) =
    some (some .done, [.write 0x61#7 [0x46#8, 0x00#8, 0x07#8, 0x08#8, 0x96#8] true]) := by decide +kernel
theorem test_getTempOffset :
    after State.cmdResult (cmd 16 0x5403 [.ok] [.bytes [0xFF#8, 0xFF#8, 0xAC#8]]) = some (some (.word 0xFFFF#16)) := by
  decide +kernel
/-- An answer of the wrong length is IoError (R52). -/
theorem test_getTempOffset_short : after (fun t => (t.cmdResult, t.trace)) (cmd 16 0x5403 [.ok] [.bytes [0x00#8]]) =
    some (some (.err .ioError), [.write 0x61#7 [0x54#8, 0x03#8] true, .read 0x61#7 3 none]) := by decide +kernel
theorem test_triggerCont : after (fun t => (t.cmdResult, t.trace)) (cmd 40 0x001003F5DB [.ioError] []) =
    some (some (.err .ioError), [.write 0x61#7 [0x00#8, 0x10#8, 0x03#8, 0xF5#8, 0xDB#8] false]) := by decide +kernel
theorem test_readMeas : after State.cmdResult (cmd 16 0x0300 [.ok] [.bytes example18]) =
    some (some (.meas 0x43DB8C2E#32 0x41D9E7FF#32 0x42433A1B#32)) := by decide +kernel
theorem test_readMeas_bad : after State.cmdResult (cmd 16 0x0300 [.ok] [.bytes bad18]) =
    some (some (.err (.crcMismatch 0xF5#8 0xF4#8))) := by decide +kernel

/-! ### State-steps (95_test_vectors.md 2.5) -/

/-- V2. -/
theorem test_initInterval_V2 :
    after (fun t => (regs t, t.devInterval)) (mk 4#3 0#17 0#4 [.ok] [.bytes [0x00#8, 0x02#8, 0xE3#8]]) =
    some ((5#3, 0#17, 0#4), some 2#16) := by decide +kernel
/-- V4. -/
theorem test_initInterval_V4 :
    after (fun t => (regs t, record t)) (mk 4#3 0#17 0#4 [.ok] [.bytes [0x00#8, 0x0A#8, 0x5B#8]]) =
    some ((7#3, 0#17, 0xC#4), (1#2, 0x5A#8, 0x5B#8, 4#3)) := by decide +kernel
/-- V7. -/
theorem test_initSet_V7 : after (fun t => (regs t, t.trace)) (mk 5#3 0#17 0#4 [.ok] []) =
    some ((6#3, 0#17, 0#4), [.write 0x61#7 [0x46#8, 0x00#8, 0x00#8, 0x0A#8, 0x5A#8] true]) := by decide +kernel
/-- V9. -/
theorem test_initSet_V9 : after (fun t => (regs t, record t)) (mk 5#3 0#17 0#4 [.ioError] []) =
    some ((7#3, 0#17, 0xC#4), (2#2, 0x00#8, 0x00#8, 5#3)) := by decide +kernel
/-- V10. -/
theorem test_initOffset_V10 :
    after (fun t => (regs t, t.tempOffset)) (mk 6#3 0#17 0#4 [.ok] [.bytes [0x00#8, 0x96#8, 0x1E#8]]) =
    some ((0#3, 0#17, 0#4), some 150#16) := by decide +kernel
/-- V12. -/
theorem test_initOffset_V12 : after (fun t => (regs t, record t)) (mk 6#3 0#17 0#4 [.ok] [.ioError]) =
    some ((7#3, 0#17, 0xC#4), (2#2, 0x00#8, 0x00#8, 6#3)) := by decide +kernel
/-- V14, V17, V19: ready, not ready, anomaly. -/
theorem test_checkingReady_V14_V17_V19 :
    [after regs (mk 0#3 10#17 0#4 [.ok] [.bytes [0x00#8, 0x01#8, 0xB0#8]]),
      after regs (mk 0#3 0#17 5#4 [.ok] [.bytes [0x00#8, 0x00#8, 0x81#8]]),
      after regs (mk 0#3 0#17 0#4 [.ok] [.bytes [0x01#8, 0x00#8, 0x75#8]])] =
    [some (1#3, 10#17, 1#4), some (2#3, 10#17, 0#4), some (2#3, 10#17, 2#4)] := by decide +kernel
/-- V21, its events as R81 writes them. -/
theorem test_checkingReady_V21 :
    (after (fun t => (regs t, record t)) (mk 0#3 10#17 0#4 [.ok] [.bytes [0x00#8, 0x01#8, 0xB1#8]]),
      traceLines 1 (mk 0#3 10#17 0#4 [.ok] [.bytes [0x00#8, 0x01#8, 0xB1#8]])) =
    (some ((2#3, 10#17, 4#4), (1#2, 0xB0#8, 0xB1#8, 0#3)),
      ["-- CHECKING_READY (STALL=10)", "W 61 02 02 -> ok", "R 61 3 -> 00 01 B1",
        "PR STATUS CrcMismatch expected=B0 actual=B1"]) := by decide +kernel
/-- V26, V27: equality waits, one over does not. -/
theorem test_waiting_V26_V27 : (after regs (mk 2#3 10#17 4#4 [] []), after regs (mk 2#3 11#17 0#4 [] [])) =
    (some (0#3, 10#17, 4#4), some (3#3, 11#17, 0#4)) := by decide +kernel
/-- V32: bit 16 of STALL takes part in the comparison. -/
theorem test_waiting_V32 :
    after regs { mk 2#3 65536#17 0#4 [] [] with cfgInterval := 65535#16 } = some (3#3, 65536#17, 0#4) := by decide +kernel
/-- V34. -/
theorem test_stalled_V34 : after (fun t => (regs t, t.trace)) (mk 3#3 20#17 0#4 [.ok] []) =
    some ((0#3, 0#17, 0#4), [.write 0x61#7 [0x00#8, 0x10#8, 0x03#8, 0xF5#8, 0xDB#8] true]) := by decide +kernel
/-- V36: STALL kept. -/
theorem test_stalled_V36 : after (fun t => (regs t, record t)) (mk 3#3 20#17 0#4 [.ioError] []) =
    some ((2#3, 20#17, 4#4), (2#2, 0x00#8, 0x00#8, 3#3)) := by decide +kernel
/-- V38. -/
theorem test_reading_V38 :
    after (fun t => (regs t, t.measCo2, t.measT, t.measRh)) (mk 1#3 10#17 1#4 [.ok] [.bytes example18]) =
    some ((0#3, 0#17, 1#4), some 0x43DB8C2E#32, some 0x41D9E7FF#32, some 0x42433A1B#32) := by decide +kernel
/-- V39: no MEAS, STALL kept. -/
theorem test_reading_V39 : after (fun t => (regs t, record t, t.measCo2)) (mk 1#3 10#17 1#4 [.ok] [.bytes bad18]) =
    some ((2#3, 10#17, 5#4), (1#2, 0xF5#8, 0xF4#8, 1#3), none) := by decide +kernel
/-- V42: no event, no change. -/
theorem test_halted_V42 : after (fun t => (regs t, t.trace)) (mk 7#3 0#17 0xC#4 [] []) =
    some ((7#3, 0#17, 0xC#4), []) := by decide +kernel

/-! ### Reset, reading, stops -/

/-- R200: from HALTED, with another configuration on the port. -/
theorem test_reset : after (fun t => (regs t, t.cfgInterval, t.cfgPressure, t.cfgPollElapsed, t.rst))
    { mk 7#3 0#17 0xC#4 [] [] with
      rst := true, cfgPort := { addr := 0x61#7, interval := 2#16, pressure := 0#16, pollElapsed := 1#16 } } =
    some ((4#3, 0#17, 0#4), 2#16, 0#16, 1#16, false) := by decide +kernel
/-- R41: reads have no side effect; a register that holds a value answers it. -/
theorem test_hostRead : hostRead 0 .stall (mk 2#3 131070#17 0#4 [] []) = 131070#32 ∧
    hostRead 0 .devInterval { State.reset with devInterval := some 10#16 } = 10#32 := by decide +kernel
/-- R63, R211: a read that is never answered: the answered write is recorded, nothing moves, the core is blocked in the read. -/
theorem test_unanswered : after (fun t => (regs t, t.trace, t.inFlight, t.trReads)) (mk 0#3 0#17 1#4 [.ok] [.never, .ioError]) =
    some ((0#3, 0#17, 1#4), [.write 0x61#7 [0x02#8, 0x02#8] true], some (.read 0x61#7 3), [.ioError]) := by decide +kernel
/-- R211: the core's state while it is blocked in a write. -/
abbrev blocked : State := { mk 3#3 20#17 0#4 [] [] with inFlight := some (.write 0x61#7 [0x00#8, 0x10#8, 0x03#8, 0xF5#8, 0xDB#8]) }
/-- R211, R200: no step while it is blocked; "only reset helps". -/
theorem test_blocked : step blocked = .fault .transactionUnanswered ∧
    after (fun t => (regs t, t.inFlight)) { blocked with rst := true } = some ((4#3, 0#17, 0#4), none) :=
  ⟨by rfl, by decide +kernel⟩
/-- R112's table: 25.0 is normal, 7FC00000 a quiet NaN, 7F800001 a signalling one. -/
theorem test_binary32Kind : (binary32Kind 0x41C80000#32, binary32Kind 0x7FC00000#32, binary32Kind 0x7F800001#32) =
    (.normal, .quietNaN, .signallingNaN) := by decide +kernel

/-! ### Witnesses: concrete values that meet the hypotheses of each obligation that has some, clause by clause -/

/-- `step s` is a next state, as something that computes. -/
def isNext (o : Host.Outcome State Fault Refusal) : Bool :=
  match o with
  | .next _ => true
  | _ => false

theorem exists_next {o : Host.Outcome State Fault Refusal} (h : isNext o = true) : ∃ t, o = .next t := by
  cases o <;> simp_all [isNext]

/-- A next state seen through a view. -/
theorem exists_next_seen {α : Type} {view : State → α} {s : State} {v : α} (h : after view s = some v) :
    ∃ t, step s = .next t ∧ view t = v := by
  unfold after at h
  split at h <;> simp_all

theorem mk_turn (code : BitVec 3) (stall : BitVec 17) (flags : BitVec 4) (ws : List WriteAnswer) (rs : List ReadAnswer) :
    SequencerTurn (mk code stall flags ws rs) := ⟨rfl, rfl, rfl, rfl⟩

/-- The word of three answered bytes. -/
theorem mk_answers (frame : List Byte) (code : BitVec 3) (stall : BitVec 17) (b0 b1 : Byte) :
    WordAnswers frame (mk code stall 0#4 [.ok] [.bytes [b0, b1, crc8 b0 b1]]) (b0 ++ b1)
      [.write 0x61#7 frame true, .read 0x61#7 3 (some [b0, b1, crc8 b0 b1])] :=
  ⟨b0, b1, _, rfl, rfl, rfl, rfl, rfl⟩

/-- The three ways a word command fails. -/
theorem mk_fails (frame : List Byte) (code : BitVec 3) (stall : BitVec 17) :
    WordFails frame (mk code stall 0#4 [.ioError] []) .ioError [.write 0x61#7 frame false] ∧
    WordFails frame (mk code stall 0#4 [.ok] [.ioError]) .ioError [.write 0x61#7 frame true, .read 0x61#7 3 none] ∧
    WordFails frame (mk code stall 0#4 [.ok] [.bytes [0x00#8, 0x01#8, 0xB1#8]]) (.crcMismatch (crc8 0x00#8 0x01#8) 0xB1#8)
      [.write 0x61#7 frame true, .read 0x61#7 3 (some [0x00#8, 0x01#8, 0xB1#8])] :=
  ⟨.inl ⟨rfl, rfl, rfl⟩, .inr (.inl ⟨rfl, rfl, rfl, rfl⟩),
    .inr (.inr ⟨_, _, _, rfl, rfl, by decide +kernel, rfl, rfl⟩)⟩

/-- A fire-and-forget command, accepted and not. -/
theorem mk_sends (frame : List Byte) (code : BitVec 3) (stall : BitVec 17) :
    SendSucceeds frame (mk code stall 0#4 [.ok] []) [.write 0x61#7 frame true] ∧
    SendFails frame (mk code stall 0#4 [.ioError] []) [.write 0x61#7 frame false] := ⟨⟨rfl, rfl⟩, ⟨rfl, rfl⟩⟩

/-- The six units of the 18-byte example. -/
abbrev unit0 : WireUnit := ⟨0x43#8, 0xDB#8, 0xCB#8⟩
abbrev unit1 : WireUnit := ⟨0x8C#8, 0x2E#8, 0x8F#8⟩
abbrev unit2 : WireUnit := ⟨0x41#8, 0xD9#8, 0x70#8⟩
abbrev unit3 : WireUnit := ⟨0xE7#8, 0xFF#8, 0xF5#8⟩
abbrev unit4 : WireUnit := ⟨0x42#8, 0x43#8, 0xBF#8⟩
abbrev unit5 : WireUnit := ⟨0x3A#8, 0x1B#8, 0x74#8⟩
/-- Unit 3 with its CRC byte wrong. -/
abbrev badUnit : WireUnit := ⟨0xE7#8, 0xFF#8, 0xF4#8⟩

theorem units_valid : ∀ u ∈ [unit0, unit1, unit2, unit3, unit4, unit5], UnitValid u := by
  simp only [List.mem_cons, List.not_mem_nil, or_false, forall_eq_or_imp, forall_eq, UnitValid]
  decide +kernel

theorem badUnit_invalid : ¬ UnitValid badUnit := by
  simp only [UnitValid]
  decide +kernel

theorem mk_measAnswers (code : BitVec 3) (stall : BitVec 17) :
    MeasAnswers (mk code stall 0#4 [.ok] [.bytes example18]) 0x43DB8C2E#32 0x41D9E7FF#32 0x42433A1B#32
      [.write 0x61#7 [0x03#8, 0x00#8] true, .read 0x61#7 18 (some example18)] :=
  ⟨unit0, unit1, unit2, unit3, unit4, unit5, rfl, rfl, units_valid, rfl, rfl, rfl, rfl⟩

/-- The three ways READ_MEAS fails. -/
theorem mk_measFails (code : BitVec 3) (stall : BitVec 17) :
    MeasFails (mk code stall 0#4 [.ioError] []) .ioError [.write 0x61#7 [0x03#8, 0x00#8] false] ∧
    MeasFails (mk code stall 0#4 [.ok] [.ioError]) .ioError
      [.write 0x61#7 [0x03#8, 0x00#8] true, .read 0x61#7 18 none] ∧
    MeasFails (mk code stall 0#4 [.ok] [.bytes bad18]) (.crcMismatch (crc8 0xE7#8 0xFF#8) 0xF4#8)
      [.write 0x61#7 [0x03#8, 0x00#8] true, .read 0x61#7 18 (some bad18)] :=
  ⟨.inl ⟨rfl, rfl, rfl⟩, .inr (.inl ⟨rfl, rfl, rfl, rfl⟩),
    .inr (.inr ⟨unit0, unit1, unit2, badUnit, unit4, unit5, badUnit, rfl, rfl,
      ⟨[unit0, unit1, unit2], [unit4, unit5], rfl, fun v h => units_valid v (by simp at h ⊢; tauto), badUnit_invalid⟩,
      rfl, rfl⟩)⟩

theorem witness_DecodeOfEncodeGivesTheInstruction : (Instr.triggerCont 1013#16 0xDB#8).wf = true := by decide +kernel

theorem witness_EncodeOfDecodedFrameOrStateGivesItBack :
    (decode (.frame [0x46#8, 0x00#8, 0xFF#8, 0xFF#8, 0xAC#8]) = .ok (.setInterval 0xFFFF#16 0xAC#8) ∧
      ∀ sel x, Container.frame [0x46#8, 0x00#8, 0xFF#8, 0xFF#8, 0xAC#8] ≠ .fn sel x) ∧
    (decode (.state 7#3) = .ok .halted ∧ ∀ sel x, Container.state 7#3 ≠ .fn sel x) :=
  ⟨⟨by decide, by simp⟩, by decide, by simp⟩

theorem witness_UnusedHighBitsOfFnInAreIgnored :
    ((0#3 = 0#3 ∨ 0#3 = 1#3) ∧ (0xFFFFFFFF0000#48).extractLsb' 0 16 = (0#48).extractLsb' 0 16) ∧
    ((3#3 = 2#3 ∨ 3#3 = 3#3) ∧ (0xFFFFFF000000#48).extractLsb' 0 24 = (0#48).extractLsb' 0 24) := by decide

theorem witness_TableRowsOfOneFormatNeverOverlap :
    (Instr.setInterval 10#16 0x5A#8).row.format = (Instr.setInterval 2#16 0#8).row.format ∧
    0x460000025A &&& (Instr.setInterval 10#16 0x5A#8).row.mask = (Instr.setInterval 10#16 0x5A#8).row.pattern ∧
    0x460000025A &&& (Instr.setInterval 2#16 0#8).row.mask = (Instr.setInterval 2#16 0#8).row.pattern := by decide

theorem witness_StepRunsTheDecodedOperation :
    ((cmd 16 0x0202 [] []).rst = false ∧ (cmd 16 0x0202 [] []).inFlight = none ∧
      (cmd 16 0x0202 [] []).cmdSlot = some [0x02#8, 0x02#8] ∧
      decode (.frame [0x02#8, 0x02#8]) = .ok .getReady) ∧
    ((fn 1#3 10#48).rst = false ∧ (fn 1#3 10#48).inFlight = none ∧ (fn 1#3 10#48).cmdSlot = none ∧
      (fn 1#3 10#48).fnQueue = [⟨1#3, 10#48⟩] ∧
      decode (.fn 1#3 10#48) = .ok (.packWord 10#16)) ∧
    (State.reset.rst = false ∧ State.reset.inFlight = none ∧ State.reset.cmdSlot = none ∧ State.reset.fnQueue = [] ∧
      decode (.state State.reset.state) = .ok .initInterval) := by decide

theorem witness_PlacedTableWordRunsNext :
    decodeTableWord 8 4 = some .initInterval ∧ decodeTableWord 40 0x001003F5DB = some (.triggerCont 1013#16 0xDB#8) ∧
    decodeTableWord 56 ((0xBEEF <<< 3) ||| 0) = some (.crc8 0xBE#8 0xEF#8) := by decide

theorem witness_ReservedFnSelectIsRefused : ∀ sel ∈ [5#3, 6#3, 7#3],
    (fn sel 0#48).rst = false ∧ (fn sel 0#48).inFlight = none ∧ (fn sel 0#48).cmdSlot = none ∧ (fn sel 0#48).fnQueue = ⟨sel, 0#48⟩ :: [] ∧
    5 ≤ sel.toNat := by decide

theorem witness_CrcDetectsUpToThreeFlippedBits : UnitValid ⟨0x00#8, 0x0A#8, 0x5A#8⟩ := by
  simp only [UnitValid]
  decide +kernel

theorem witness_CrcMatchesThePrintedTable : crcTable[(0xFF#8 ^^^ 0x00#8).toNat]? = some 0xAC#8 := by decide

theorem witness_WordCodecRoundTrip : unpackWord ⟨0x03#8, 0xF5#8, 0xDB#8⟩ = .ok 1013#16 := by decide +kernel

theorem witness_UnpackWordAndUnpackBytesAgree :
    unpackWord ⟨0x03#8, 0xF5#8, 0xDB#8⟩ = .ok 1013#16 ∧ unpackBytes ⟨0x03#8, 0xF5#8, 0xDB#8⟩ = .ok (0x03#8, 0xF5#8) := by
  decide +kernel

theorem witness_FloatCodecRoundTrip : unpackFloat unit0 unit1 = .ok 0x43DB8C2E#32 := by decide +kernel

theorem witness_UnpackFloatReportsTheFirstFailure :
    ¬ UnitValid badUnit ∧ (UnitValid unit0 ∧ ¬ UnitValid badUnit) ∧ (UnitValid unit0 ∧ UnitValid unit1) :=
  ⟨badUnit_invalid, ⟨units_valid _ (by simp), badUnit_invalid⟩, units_valid _ (by simp), units_valid _ (by simp)⟩

theorem witness_UnpackWordRequestAnswersWordOrMismatch : UnitValid unit0 ∧ ¬ UnitValid badUnit :=
  ⟨units_valid _ (by simp), badUnit_invalid⟩

theorem witness_UnpackBytesRequestAnswersBytesOrMismatch : UnitValid unit1 ∧ ¬ UnitValid badUnit :=
  ⟨units_valid _ (by simp), badUnit_invalid⟩

theorem witness_UnpackFloatRequestAnswersPatternOrMismatch :
    (UnitValid unit0 ∧ UnitValid unit1) ∧ ¬ UnitValid badUnit ∧ (UnitValid unit2 ∧ ¬ UnitValid badUnit) :=
  ⟨⟨units_valid _ (by simp), units_valid _ (by simp)⟩, badUnit_invalid, units_valid _ (by simp), badUnit_invalid⟩

theorem witness_FnResponseIsTheSameInStatesOfEqualDraws :
    decodeFn 4#3 0x43DBCB8C2E8F#48 = .ok (.unpackFloat unit0 unit1) ∧ (mk 7#3 0#17 0xC#4 [] []).draws = State.reset.draws := by
  decide

theorem witness_GetReadyReturnsTheWord :
    (∃ s v evs, WordAnswers [0x02#8, 0x02#8] s v evs) ∧ (∃ s e evs, WordFails [0x02#8, 0x02#8] s e evs) :=
  ⟨⟨_, _, _, mk_answers _ 0#3 0#17 0x00#8 0x01#8⟩, _, _, _, (mk_fails _ 0#3 0#17).2.2⟩

theorem witness_GetIntervalReturnsTheWord :
    (∃ s v evs, WordAnswers [0x46#8, 0x00#8] s v evs) ∧ (∃ s e evs, WordFails [0x46#8, 0x00#8] s e evs) :=
  ⟨⟨_, _, _, mk_answers _ 0#3 0#17 0xFF#8 0xFF#8⟩, _, _, _, (mk_fails _ 0#3 0#17).1⟩

theorem witness_SetIntervalSendsTheFrame :
    (∃ s evs, SendSucceeds [0x46#8, 0x00#8, 0x00#8, 0x0A#8, crc8 0x00#8 0x0A#8] s evs) ∧
    (∃ s evs, SendFails [0x46#8, 0x00#8, 0x00#8, 0x0A#8, crc8 0x00#8 0x0A#8] s evs) :=
  ⟨⟨_, _, (mk_sends _ 0#3 0#17).1⟩, _, _, (mk_sends _ 0#3 0#17).2⟩

theorem witness_GetTempOffsetReturnsTheWord :
    (∃ s v evs, WordAnswers [0x54#8, 0x03#8] s v evs) ∧ (∃ s e evs, WordFails [0x54#8, 0x03#8] s e evs) :=
  ⟨⟨_, _, _, mk_answers _ 0#3 0#17 0x00#8 0x96#8⟩, _, _, _, (mk_fails _ 0#3 0#17).2.1⟩

theorem witness_TriggerContSendsTheFrame :
    (∃ s evs, SendSucceeds [0x00#8, 0x10#8, 0x03#8, 0xF5#8, crc8 0x03#8 0xF5#8] s evs) ∧
    (∃ s evs, SendFails [0x00#8, 0x10#8, 0x03#8, 0xF5#8, crc8 0x03#8 0xF5#8] s evs) :=
  ⟨⟨_, _, (mk_sends _ 0#3 0#17).1⟩, _, _, (mk_sends _ 0#3 0#17).2⟩

theorem witness_ReadMeasReturnsThreePatterns :
    (∃ s c t h evs, MeasAnswers s c t h evs) ∧ (∃ s evs, MeasFails s .ioError evs) ∧
    (∃ s x y evs, MeasFails s (.crcMismatch x y) evs) :=
  ⟨⟨_, _, _, _, _, mk_measAnswers 0#3 0#17⟩, ⟨_, _, (mk_measFails 0#3 0#17).2.1⟩, _, _, _, _, (mk_measFails 0#3 0#17).2.2⟩

theorem witness_EveryAnswerOfTheTransportIsCovered :
    ¬ Unanswered 3 (mk 0#3 0#17 0#4 [.ok] [.ioError]) ∧ ¬ Unanswered 0 (mk 0#3 0#17 0#4 [.ioError] [.never]) ∧
    ¬ Unanswered 18 (mk 0#3 0#17 0#4 [.ok] [.bytes bad18]) := by
  simp [Unanswered, trWriteAnswer, trReadAnswer, mk, exactLength, bad18]

theorem witness_CommandsWriteTheirOwnEncoding :
    (Instr.setInterval 10#16 0x5A#8).wf = true ∧
    encode (.setInterval 10#16 0x5A#8) = .frame [0x46#8, 0x00#8, 0x00#8, 0x0A#8, 0x5A#8] ∧
    trWriteAnswer (mk 0#3 0#17 0#4 [.ok] []) ≠ .never ∧ ∃ t, exec (.setInterval 10#16 0x5A#8) (mk 0#3 0#17 0#4 [.ok] []) = .next t :=
  ⟨by decide +kernel, by decide, by decide, exists_next (by rfl)⟩

/-- Each of the three lengths, blocked in the write and, where there is one, in the read; and a state blocked in each. -/
theorem witness_AnUnansweredTransactionBlocksTheCore :
    (Unanswered 3 (mk 0#3 0#17 0#4 [.never] []) ∧ Unanswered 3 (mk 0#3 0#17 0#4 [.ok] [.never])) ∧
    (Unanswered 18 (mk 1#3 0#17 0#4 [.never] []) ∧ Unanswered 18 (mk 1#3 0#17 0#4 [.ok] [.never])) ∧
    (Unanswered 0 (mk 3#3 0#17 0#4 [.never] []) ∧ (mk 5#3 0#17 0#4 [.never] []).cfgInterval = 0x00#8 ++ 0x0A#8 ∧
      (mk 3#3 0#17 0#4 [.never] []).cfgPressure = 0x03#8 ++ 0xF5#8) ∧
    (blocked.rst = false ∧ blocked.inFlight ≠ none) ∧
    (readLength .waiting = none ∧ ∃ t, exec .waiting (mk 2#3 0#17 0#4 [.never] []) = .next t) ∧
    (readLength .stalled = some 0 ∧ ¬ Unanswered 0 (mk 3#3 20#17 0#4 [.ok] [.never]) ∧
      ∃ t, exec .stalled (mk 3#3 20#17 0#4 [.ok] [.never]) = .next t) :=
  ⟨⟨.inl rfl, .inr ⟨by decide, rfl, rfl⟩⟩, ⟨.inl rfl, .inr ⟨by decide, rfl, rfl⟩⟩, ⟨.inl rfl, rfl, rfl⟩, ⟨rfl, by decide⟩,
    ⟨rfl, exists_next (by rfl)⟩, rfl, by simp [Unanswered, trWriteAnswer, mk], exists_next (by rfl)⟩

theorem witness_InitIntervalComparesTheSensorsInterval :
    (∃ s evs, WordAnswers [0x46#8, 0x00#8] s s.cfgInterval evs) ∧
    (∃ s v evs, WordAnswers [0x46#8, 0x00#8] s v evs ∧ v ≠ s.cfgInterval) ∧
    (∃ s e evs, WordFails [0x46#8, 0x00#8] s e evs) :=
  ⟨⟨_, _, mk_answers _ 4#3 0#17 0x00#8 0x0A#8⟩, ⟨_, _, _, mk_answers _ 4#3 0#17 0x00#8 0x02#8, by decide⟩,
    _, _, _, (mk_fails _ 4#3 0#17).2.2⟩

/-- The machine before V2. -/
abbrev differsStart : State := mk 4#3 0#17 0#4 [.ok] [.bytes [0x00#8, 0x02#8, 0xE3#8]]

theorem witness_InitSetWritesTheConfiguredInterval :
    (mk 5#3 0#17 0#4 [.ok] []).cfgInterval = 0x00#8 ++ 0x0A#8 ∧
    (∃ evs, SendSucceeds [0x46#8, 0x00#8, 0x00#8, 0x0A#8, crc8 0x00#8 0x0A#8] (mk 5#3 0#17 0#4 [.ok] []) evs) ∧
    (∃ evs, SendFails [0x46#8, 0x00#8, 0x00#8, 0x0A#8, crc8 0x00#8 0x0A#8] (mk 5#3 0#17 0#4 [.ioError] []) evs) ∧
    (SequencerTurn differsStart ∧ differsStart.state ≠ 5#3 ∧ ∃ t, step differsStart = .next t ∧ t.state = 5#3) :=
  ⟨rfl, ⟨_, (mk_sends _ 5#3 0#17).1⟩, ⟨_, (mk_sends _ 5#3 0#17).2⟩, mk_turn .., by decide,
    exists_next_seen (show after State.state differsStart = some 5#3 by decide +kernel)⟩

theorem witness_InitOffsetRecordsTheOffset :
    (∃ s v evs, WordAnswers [0x54#8, 0x03#8] s v evs) ∧ (∃ s e evs, WordFails [0x54#8, 0x03#8] s e evs) :=
  ⟨⟨_, _, _, mk_answers _ 6#3 0#17 0xFF#8 0xFF#8⟩, _, _, _, (mk_fails _ 6#3 0#17).2.1⟩

theorem witness_CheckingReadyClassifiesTheAnswer :
    (∃ s evs, WordAnswers [0x02#8, 0x02#8] s 1#16 evs) ∧ (∃ s evs, WordAnswers [0x02#8, 0x02#8] s 0#16 evs) ∧
    (∃ s evs, WordAnswers [0x02#8, 0x02#8] s 2#16 evs ∧ (2#16 : U16) ≠ 0#16 ∧ (2#16 : U16) ≠ 1#16) ∧
    (∃ s e evs, WordFails [0x02#8, 0x02#8] s e evs) :=
  ⟨⟨_, _, mk_answers _ 0#3 0#17 0x00#8 0x01#8⟩, ⟨_, _, mk_answers _ 0#3 0#17 0x00#8 0x00#8⟩,
    ⟨_, _, mk_answers _ 0#3 0#17 0x00#8 0x02#8, by decide, by decide⟩, _, _, _, (mk_fails _ 0#3 0#17).1⟩

theorem witness_ReadingPresentsTheMeasurement :
    (∃ s c t h evs, MeasAnswers s c t h evs) ∧ (∃ s e evs, MeasFails s e evs) :=
  ⟨⟨_, _, _, _, _, mk_measAnswers 1#3 10#17⟩, _, _, _, (mk_measFails 1#3 10#17).1⟩

theorem witness_WaitingComparesStallWithTheInterval :
    (mk 2#3 10#17 0#4 [] []).stall.toNat ≤ (mk 2#3 10#17 0#4 [] []).cfgInterval.toNat ∧
    (mk 2#3 11#17 0#4 [] []).cfgInterval.toNat < (mk 2#3 11#17 0#4 [] []).stall.toNat := by decide

theorem witness_StalledTriggersContinuousMeasurement :
    (mk 3#3 20#17 0#4 [.ok] []).cfgPressure = 0x03#8 ++ 0xF5#8 ∧
    (∃ evs, SendSucceeds [0x00#8, 0x10#8, 0x03#8, 0xF5#8, crc8 0x03#8 0xF5#8] (mk 3#3 20#17 0#4 [.ok] []) evs) ∧
    (∃ evs, SendFails [0x00#8, 0x10#8, 0x03#8, 0xF5#8, crc8 0x03#8 0xF5#8] (mk 3#3 20#17 0#4 [.ioError] []) evs) :=
  ⟨rfl, ⟨_, (mk_sends _ 3#3 20#17).1⟩, _, (mk_sends _ 3#3 20#17).2⟩

theorem witness_HaltedDoesNothing :
    SequencerTurn (mk 7#3 0#17 0xC#4 [] []) ∧ (mk 7#3 0#17 0xC#4 [] []).state = 7#3 := ⟨mk_turn .., rfl⟩

theorem witness_EveryTransitionOfState : ∀ code : BitVec 3, ∃ t,
    SequencerTurn (mk code 0#17 0#4 [.ok] [.ioError]) ∧ step (mk code 0#17 0#4 [.ok] [.ioError]) = .next t := by
  intro code
  obtain ⟨t, h⟩ := exists_next (o := step (mk code 0#17 0#4 [.ok] [.ioError])) (by revert code; decide +kernel)
  exact ⟨t, mk_turn .., h⟩

theorem witness_PhasesAreLeftAsTheRulesSay : ∀ code : BitVec 3, ∃ t,
    (mk code 0#17 0#4 [.ok] [.ioError]).rst = false ∧ step (mk code 0#17 0#4 [.ok] [.ioError]) = .next t := by
  intro code
  obtain ⟨t, h1, h2⟩ := witness_EveryTransitionOfState code
  exact ⟨t, h1.rst, h2⟩

theorem witness_ConfigurationIsWrittenByResetOnly :
    ∃ t, (mk 2#3 0#17 0#4 [] []).rst = false ∧ step (mk 2#3 0#17 0#4 [] []) = .next t := ⟨_, rfl, rfl⟩

/-- The machine before V15. -/
abbrev notReadyStart : State := mk 0#3 0#17 0#4 [.ok] [.bytes [0x00#8, 0x00#8, 0x81#8]]

theorem witness_StallIsWrittenInThreePlaces :
    notReadyStart.rst = false ∧ ∃ t, step notReadyStart = .next t ∧ t.stall ≠ notReadyStart.stall := by
  obtain ⟨t, hs, h⟩ := exists_next_seen (show after State.stall notReadyStart = some 10#17 by decide +kernel)
  exact ⟨rfl, t, hs, by rw [h]; decide⟩

/-- The machine before V38. -/
abbrev readingStart : State := mk 1#3 10#17 1#4 [.ok] [.bytes example18]

theorem witness_EachDataRegisterHasOneWriter :
    readingStart.rst = false ∧ ∃ t, step readingStart = .next t ∧ t.measCo2 ≠ readingStart.measCo2 := by
  obtain ⟨t, hs, h⟩ := exists_next_seen (show after State.measCo2 readingStart = some (some 0x43DB8C2E#32) by decide +kernel)
  exact ⟨rfl, t, hs, by rw [h]; decide⟩

theorem witness_ErrorRecordIsWrittenOnErrorsOnly :
    ∃ t, (mk 3#3 20#17 0#4 [.ioError] []).rst = false ∧ step (mk 3#3 20#17 0#4 [.ioError] []) = .next t ∧ t.errKind = 2#2 :=
  ⟨_, rfl, rfl, rfl⟩

theorem witness_OnlyTheSequencerChangesRegisters :
    (∃ t, (fn 1#3 10#48).rst = false ∧ (fn 1#3 10#48).fnQueue ≠ [] ∧ step (fn 1#3 10#48) = .next t) ∧
    (∃ t, (cmd 16 0x0202 [.ioError] []).rst = false ∧ (cmd 16 0x0202 [.ioError] []).cmdSlot ≠ none ∧
      step (cmd 16 0x0202 [.ioError] []) = .next t) :=
  ⟨⟨_, rfl, by decide, rfl⟩, _, rfl, by decide, rfl⟩

theorem witness_NoStepFillsTheCommandSlot : ∃ t, step (mk 2#3 0#17 0#4 [] []) = .next t := ⟨_, rfl⟩

theorem witness_ResetGivesEveryRegisterItsValue :
    let s := { mk 7#3 0#17 0xC#4 [] [] with rst := true }
    s.rst = true ∧ s.cfgPort.addr = 0x61#7 ∧ s.cfgPort.pollElapsed ≠ 0#16 := by decide

theorem witness_IllegalLaunchIsRefused :
    let s := { State.reset with rst := true, cfgPort := ⟨0x62#7, 10#16, 1013#16, 0#16⟩ }
    let r := { State.reset with rst := true, cfgPort := ⟨0x61#7, 10#16, 1013#16, 0#16⟩ }
    (s.rst = true ∧ s.cfgPort.addr ≠ 0x61#7) ∧ (r.rst = true ∧ r.cfgPort.addr = 0x61#7 ∧ r.cfgPort.pollElapsed = 0#16) := by
  decide

/-- A state in the polling phase that satisfies the invariant, with STALL as high as it gets there (V24). -/
abbrev highStart : State :=
  { mk 0#3 65535#17 0#4 [.ok] [.bytes [0x00#8, 0x00#8, crc8 0x00#8 0x00#8]] with
    cfgInterval := 65535#16, cfgPollElapsed := 65535#16, devInterval := some 65535#16, tempOffset := some 0#16 }

theorem highStart_inv : Inv highStart := by
  constructor <;> first | decide | exact fun _ h => nomatch h

theorem witness_EveryStepKeepsInvariant : Inv highStart ∧ ∃ t, step highStart = .next t :=
  ⟨highStart_inv, exists_next (by decide +kernel)⟩

theorem witness_StallAdditionNeverOverflows :
    Inv highStart ∧ SequencerTurn highStart ∧ highStart.state = 0#3 ∧
    (∃ evs, WordAnswers [0x02#8, 0x02#8] highStart 0#16 evs) ∧ (0#16 : U16) ≠ 1#16 ∧ ∃ t, step highStart = .next t :=
  ⟨highStart_inv, ⟨rfl, rfl, rfl, rfl⟩, rfl, ⟨_, _, _, _, rfl, rfl, rfl, rfl, rfl⟩, by decide, exists_next (by decide +kernel)⟩

theorem witness_StepsAppendLegalTransactions : ∃ t, step notReadyStart = .next t := exists_next (by decide +kernel)

/-- The machine before V14. -/
abbrev readyStart : State := mk 0#3 10#17 0#4 [.ok] [.bytes [0x00#8, 0x01#8, 0xB0#8]]

theorem witness_TriggersAndMeasurementsAppearWhereTheRulesSay :
    (SequencerTurn readingStart ∧ ∃ t, step readingStart = .next t) ∧
    (SequencerTurn readyStart ∧ readyStart.state ≠ 1#3 ∧ ∃ t, step readyStart = .next t ∧ t.state = 1#3) :=
  ⟨⟨mk_turn .., exists_next (by decide +kernel)⟩, mk_turn .., by decide,
    exists_next_seen (show after State.state readyStart = some 1#3 by decide +kernel)⟩

theorem witness_AnyPatternIsPresentedBitForBit :
    let s := mk 1#3 0#17 1#4 [.ok] [.bytes (sixUnits (packFloat 0x7FC00000#32).1 (packFloat 0x7FC00000#32).2
      (packFloat 0x7F800001#32).1 (packFloat 0x7F800001#32).2 (packFloat 0xFF800000#32).1 (packFloat 0xFF800000#32).2)]
    SequencerTurn s ∧ s.state = 1#3 ∧ trWriteAnswer s = .ok ∧
    trReadAnswer 18 s = .bytes (sixUnits (packFloat 0x7FC00000#32).1 (packFloat 0x7FC00000#32).2
      (packFloat 0x7F800001#32).1 (packFloat 0x7F800001#32).2 (packFloat 0xFF800000#32).1 (packFloat 0xFF800000#32).2) :=
  ⟨mk_turn .., rfl, rfl, rfl⟩

/-- The rule's three examples: interval 10 and elapsed 10, so k = 2; elapsed 1, so k = 11; elapsed above the interval, so k = 1. -/
theorem witness_StalledIsReachedAfterTheSmallestK : ∀ p ∈ [(10#16, 2), (1#16, 11), (11#16, 1)],
    let s := { mk 0#3 0#17 0#4 (List.replicate p.2 .ok) (List.replicate p.2 (.bytes [0x00#8, 0x00#8, 0x81#8])) with
      cfgPollElapsed := p.1 }
    SequencerTurn s ∧ s.state = 0#3 ∧ s.stall = 0#17 ∧ s.cfgInterval.toNat < p.2 * s.cfgPollElapsed.toNat ∧
    (∀ j < p.2, j * s.cfgPollElapsed.toNat ≤ s.cfgInterval.toNat) ∧ s.trWrites = List.replicate p.2 .ok ++ [] ∧
    s.trReads = List.replicate p.2 (.bytes [0x00#8, 0x00#8, 0x81#8]) ++ [] := by
  simp only [List.mem_cons, List.not_mem_nil, or_false, forall_eq_or_imp, forall_eq]
  exact ⟨⟨⟨rfl, rfl, rfl, rfl⟩, rfl, rfl, by decide, by decide, rfl, rfl⟩,
    ⟨⟨rfl, rfl, rfl, rfl⟩, rfl, rfl, by decide, by decide, rfl, rfl⟩,
    ⟨rfl, rfl, rfl, rfl⟩, rfl, rfl, by decide, by decide, rfl, rfl⟩

/-- Two different bad units, STALL as high as the premise allows; and no answer at all. -/
theorem witness_BadCrcsNeverAdvanceStall :
    let bad : List WireUnit := [badUnit, ⟨0x00#8, 0x01#8, 0xB1#8⟩]
    let s := mk 0#3 10#17 0#4 [.ok, .ok] [.bytes [0xE7#8, 0xFF#8, 0xF4#8], .bytes [0x00#8, 0x01#8, 0xB1#8]]
    SequencerTurn s ∧ s.state = 0#3 ∧ s.stall.toNat ≤ s.cfgInterval.toNat ∧ (∀ u ∈ bad, ¬ UnitValid u) ∧
    s.trWrites = List.replicate bad.length .ok ++ [] ∧
    s.trReads = bad.map (fun u => .bytes [u.b0, u.b1, u.b2]) ++ [] ∧
    (∀ u ∈ ([] : List WireUnit), ¬ UnitValid u) ∧ s.trWrites = List.replicate 0 .ok ++ s.trWrites := by
  refine ⟨mk_turn .., rfl, by decide, ?_, rfl, rfl, by simp, rfl⟩
  simp only [List.mem_cons, List.not_mem_nil, or_false, forall_eq_or_imp, forall_eq]
  exact ⟨badUnit_invalid, by simp only [UnitValid]; decide +kernel⟩

theorem witness_HostViewRegistersNeverInfluenceBehaviour :
    SameBehaviour State.reset { State.reset with flags := 0xF#4, errKind := 1#2, measCo2 := some 1#32 } := by
  constructor <;> rfl

theorem witness_OperationLocalStorageIsNeverRead :
    SameButLocals State.reset { State.reset with crc := 0xAA#8, rxbuf := [0x01#8] } := by rfl

end Sys2Proof.Tests
end

section
/-! PROOF. Encoding: decoding what was encoded, the ignored high bits of fn_in, encodings written out from the spec. -/

namespace Sys2Proof

/-! ### The operand fields of fn_in -/

/-- A field that lies in the used low bits of fn_in is read from them, whatever the width above (R34). -/
theorem extractLsb'_setWidth48_high (b0 b1 : Byte) : ((b0 ++ b1).setWidth 48).extractLsb' 8 8 = b0 := by
  rw [BitVec.extractLsb'_setWidth_of_le (by decide)]
  exact BitVec.extractLsb'_append_eq_left

theorem extractLsb'_setWidth48_low (b0 b1 : Byte) : ((b0 ++ b1).setWidth 48).extractLsb' 0 8 = b1 := by
  rw [BitVec.extractLsb'_setWidth_of_le (by decide)]
  exact BitVec.extractLsb'_append_eq_right

theorem extractLsb'_setWidth48_word (v : U16) : (v.setWidth 48).extractLsb' 0 16 = v := by
  rw [BitVec.extractLsb'_setWidth_of_le (by decide), BitVec.extractLsb'_eq_self]

theorem unitField_unit48 (u : WireUnit) : unitField (unit48 u) 0 = u := by
  unfold unitField unit48
  simp (disch := omega) only [BitVec.extractLsb'_setWidth_of_le, BitVec.extractLsb'_append_eq_of_add_le,
    BitVec.extractLsb'_append_eq_of_le]
  simp

/-- Of two units side by side in fn_in, bits [47:24] hold the first and bits [23:0] the second (R34). -/
theorem unitField_of_two_units (h l : WireUnit) :
    unitField (h.b0 ++ h.b1 ++ h.b2 ++ l.b0 ++ l.b1 ++ l.b2) 24 = h ∧
    unitField (h.b0 ++ h.b1 ++ h.b2 ++ l.b0 ++ l.b1 ++ l.b2) 0 = l := by
  unfold unitField
  simp (disch := omega) only [BitVec.extractLsb'_append_eq_of_add_le, BitVec.extractLsb'_append_eq_of_le]
  simp

/-- What an extraction of low bits keeps, a smaller extraction keeps. -/
theorem extractLsb'_congr_of_low {n off len : Nat} {x y : BitVec 48} (hle : off + len ≤ n)
    (h : x.extractLsb' 0 n = y.extractLsb' 0 n) : x.extractLsb' off len = y.extractLsb' off len := by
  rw [← BitVec.extractLsb'_extractLsb'_of_le hle, h, BitVec.extractLsb'_extractLsb'_of_le hle]

theorem unitField_congr_of_low {x y : BitVec 48} (h : x.extractLsb' 0 24 = y.extractLsb' 0 24) :
    unitField x 0 = unitField y 0 := by
  simp only [unitField, extractLsb'_congr_of_low (by decide : 0 + 16 + 8 ≤ 24) h,
    extractLsb'_congr_of_low (by decide : 0 + 8 + 8 ≤ 24) h, extractLsb'_congr_of_low (by decide : 0 + 8 ≤ 24) h]

/-! ### What each selector decodes to -/

theorem decodeFn_crc8 (x : BitVec 48) : decodeFn 0#3 x = .ok (.crc8 (x.extractLsb' 8 8) (x.extractLsb' 0 8)) := rfl
theorem decodeFn_packWord (x : BitVec 48) : decodeFn 1#3 x = .ok (.packWord (x.extractLsb' 0 16)) := rfl
theorem decodeFn_unpackWord (x : BitVec 48) : decodeFn 2#3 x = .ok (.unpackWord (unitField x 0)) := rfl
theorem decodeFn_unpackBytes (x : BitVec 48) : decodeFn 3#3 x = .ok (.unpackBytes (unitField x 0)) := rfl
theorem decodeFn_unpackFloat (x : BitVec 48) :
    decodeFn 4#3 x = .ok (.unpackFloat (unitField x 24) (unitField x 0)) := rfl

/-- A CMD5 frame decodes to the command its first two bytes name, with the argument put together from its bytes (R72, R75). -/
theorem decodeFrame_setInterval (a : U16) (c : Byte) :
    decodeFrame [0x46#8, 0x00#8, Machine.hiByte a, Machine.loByte a, c] = .ok (.setInterval a c) := by
  rw [← Machine.hiByte_append_loByte a]
  simp [decodeFrame, decodeCmd5]

theorem decodeFrame_triggerCont (a : U16) (c : Byte) :
    decodeFrame [0x00#8, 0x10#8, Machine.hiByte a, Machine.loByte a, c] = .ok (.triggerCont a c) := by
  rw [← Machine.hiByte_append_loByte a]
  simp [decodeFrame, decodeCmd5]

/-- The decoder undoes the encoder. The CRC byte of a CMD5 frame is carried as it is, so no well-formedness is needed. -/
theorem decode_encode (i : Instr) : decode (encode i) = .ok i := by
  cases i with
  | crc8 b0 b1 =>
    simp only [encode, decode, decodeFn_crc8, extractLsb'_setWidth48_high, extractLsb'_setWidth48_low]
  | packWord v => simp only [encode, decode, decodeFn_packWord, extractLsb'_setWidth48_word]
  | unpackWord u => simp only [encode, decode, decodeFn_unpackWord, unitField_unit48]
  | unpackBytes u => simp only [encode, decode, decodeFn_unpackBytes, unitField_unit48]
  | unpackFloat h l =>
    obtain ⟨hh, hl⟩ := unitField_of_two_units h l
    simp only [encode, decode, decodeFn_unpackFloat, hh, hl]
  | setInterval a c => exact decodeFrame_setInterval a c
  | triggerCont a c => exact decodeFrame_triggerCont a c
  | getReady | getInterval | getTempOffset | readMeas => rfl
  | checkingReady | reading | waiting | stalled | initInterval | initSet | initOffset | halted => rfl

/-- Settles O1: the decoder undoes the encoder on every operation, well formed or not. -/
theorem decodeOfEncodeGivesTheInstruction : Obligations.DecodeOfEncodeGivesTheInstruction :=
  fun i _ => decode_encode i

/-- Settles O3: the operands of FSEL 0 and 1 are fields of the low 16 bits, those of FSEL 2 and 3 of the low 24. -/
theorem unusedHighBitsOfFnInAreIgnored : Obligations.UnusedHighBitsOfFnInAreIgnored := by
  intro sel x y
  refine ⟨?_, ?_⟩
  · rintro (rfl | rfl) h
    · rw [decodeFn_crc8, decodeFn_crc8, extractLsb'_congr_of_low (by decide : 8 + 8 ≤ 16) h,
        extractLsb'_congr_of_low (by decide : 0 + 8 ≤ 16) h]
    · rw [decodeFn_packWord, decodeFn_packWord, h]
  · rintro (rfl | rfl) h
    · rw [decodeFn_unpackWord, decodeFn_unpackWord, unitField_congr_of_low h]
    · rw [decodeFn_unpackBytes, decodeFn_unpackBytes, unitField_congr_of_low h]

/-- Settles O5: each container is closed, so the decoder computes its operation. -/
theorem specEncodingsDecode : Obligations.SpecEncodingsDecode :=
  ⟨by decide, by decide, by decide, by decide, by decide⟩

end Sys2Proof
end


section
/-! PROOF. What the registers named in 10_state.md are written by: the converse of the response lemmas, one inversion of the step that
keeps the success and the failure of a command apart, and the statements derived from it. -/

namespace Sys2Proof.Machine

/-! ### What a result says of the transport's answers -/

/-- The errors an operation can raise: a CrcMismatch has differing fields (R106). -/
def Raisable : CoreError → Prop
  | .crcMismatch x y => x ≠ y
  | .ioError => True

/-- UNPACK_WORD's two outcomes (R103). -/
theorem unpackWord_eq_ok {u : WireUnit} {v : U16} (h : unpackWord u = .ok v) : UnitValid u ∧ v = u.b0 ++ u.b1 := by
  by_cases hv : crc8 u.b0 u.b1 = u.b2
  · cases (unpackWord_ok hv).symm.trans h
    exact ⟨hv, rfl⟩
  · simp [unpackWord_error hv] at h

theorem unpackWord_raisable {u : WireUnit} {e : CoreError} (h : unpackWord u = .error e) : Raisable e := by
  by_cases hv : crc8 u.b0 u.b1 = u.b2
  · simp [unpackWord_ok hv] at h
  · cases (unpackWord_error hv).symm.trans h
    exact hv

/-- UNPACK_FLOAT's two outcomes (R111, R114). -/
theorem unpackFloat_eq_ok {h l : WireUnit} {f : U32} (hf : unpackFloat h l = .ok f) :
    UnitValid h ∧ UnitValid l ∧ f = h.b0 ++ h.b1 ++ l.b0 ++ l.b1 := by
  by_cases hh : UnitValid h
  · by_cases hl : UnitValid l
    · cases (unpackFloat_ok hh hl).symm.trans hf
      exact ⟨hh, hl, rfl⟩
    · simp [unpackFloat_lowBad hh hl] at hf
  · simp [unpackFloat_highBad l hh] at hf

theorem unpackFloat_raisable {h l : WireUnit} {e : CoreError} (hf : unpackFloat h l = .error e) : Raisable e := by
  by_cases hh : UnitValid h
  · by_cases hl : UnitValid l
    · simp [unpackFloat_ok hh hl] at hf
    · cases (unpackFloat_lowBad hh hl).symm.trans hf
      exact hl
  · cases (unpackFloat_highBad l hh).symm.trans hf
    exact hh

/-- XFER succeeds only on an answered write and, where it reads, an answered read (R121). -/
theorem xferResult_eq_ok {n : Nat} {s : State} {bs : List Byte} (h : xferResult n s = .ok bs) :
    trWriteAnswer s = .ok ∧ (n ≠ 0 → trReadAnswer n s = .bytes bs) := by
  unfold xferResult at h
  split at h
  · refine ⟨‹_›, fun hn => ?_⟩
    rw [if_neg hn] at h
    split at h
    · cases h
      assumption
    · cases h
  · cases h

theorem xferResult_eq_error {n : Nat} {s : State} {e : CoreError} (h : xferResult n s = .error e) : e = .ioError := by
  unfold xferResult at h
  repeat' split at h
  all_goals cases h
  all_goals rfl

theorem wordResult_raisable {s : State} {e : CoreError} (h : wordResult s = .error e) : Raisable e := by
  unfold wordResult at h
  split at h
  · cases h
    cases xferResult_eq_error ‹_›
    trivial
  · exact unpackWord_raisable h

/-- A word command that returns a word has been answered it, whatever its frame. -/
theorem answers_of_wordResult {s : State} {v : U16} (frame : List Byte) (h : wordResult s = .ok v) :
    ∃ evs, WordAnswers frame s v evs := by
  unfold wordResult at h
  split at h
  · cases h
  · next bs hx =>
    obtain ⟨hw, hr⟩ := xferResult_eq_ok hx
    have hr := hr (by decide)
    obtain ⟨b0, b1, b2, rfl⟩ := List.length_eq_three.1 (trReadAnswer_length hr)
    obtain ⟨hv, rfl⟩ := unpackWord_eq_ok h
    exact ⟨_, b0, b1, b2, hw, hr, hv, rfl, rfl⟩

theorem sendResult_raisable {s : State} {e : CoreError} (h : sendResult s = .error e) : Raisable e := by
  unfold sendResult at h
  split at h
  · cases h
    cases xferResult_eq_error ‹_›
    trivial
  · cases h

theorem succeeds_of_sendResult {s : State} (frame : List Byte) (h : sendResult s = .ok ()) :
    ∃ evs, SendSucceeds frame s evs := by
  unfold sendResult at h
  split at h
  · cases h
  · exact ⟨_, (xferResult_eq_ok ‹_›).1, rfl⟩

/-- Eighteen bytes are the six wire units at their places (R73). -/
theorem sixUnits_unitAt {bs : List Byte} (h : bs.length = 18) :
    sixUnits (unitAt bs 0) (unitAt bs 3) (unitAt bs 6) (unitAt bs 9) (unitAt bs 12) (unitAt bs 15) = bs := by
  refine List.ext_getElem (by simp [sixUnits, h]) fun i hi _ => ?_
  simp only [sixUnits, List.length_cons, List.length_nil] at hi
  interval_cases i <;> simp [sixUnits, unitAt, h]

theorem decodeMeas_raisable {bs : List Byte} {e : CoreError} (h : decodeMeas bs = .error e) : Raisable e := by
  unfold decodeMeas at h
  repeat' split at h
  all_goals cases h
  all_goals exact unpackFloat_raisable ‹_›

theorem decodeMeas_eq_ok {bs : List Byte} {c t h : U32} (hd : decodeMeas bs = .ok (c, t, h)) :
    readFloat bs 0 = .ok c ∧ readFloat bs 6 = .ok t ∧ readFloat bs 12 = .ok h := by
  unfold decodeMeas at hd
  repeat' split at hd
  all_goals cases hd
  exact ⟨‹_›, ‹_›, ‹_›⟩

theorem measResult_raisable {s : State} {e : CoreError} (h : measResult s = .error e) : Raisable e := by
  unfold measResult at h
  split at h
  · cases h
    cases xferResult_eq_error ‹_›
    trivial
  · exact decodeMeas_raisable h

/-- READ_MEAS returns three patterns only from six valid units. -/
theorem answers_of_measResult {s : State} {c t h : U32} (hm : measResult s = .ok (c, t, h)) :
    ∃ evs, MeasAnswers s c t h evs := by
  unfold measResult at hm
  split at hm
  · cases hm
  · next bs hx =>
    obtain ⟨hw, hr⟩ := xferResult_eq_ok hx
    have hr := hr (by decide)
    obtain ⟨hc, ht, hh⟩ := decodeMeas_eq_ok hm
    obtain ⟨v0, v1, rfl⟩ := unpackFloat_eq_ok hc
    obtain ⟨v2, v3, rfl⟩ := unpackFloat_eq_ok ht
    obtain ⟨v4, v5, rfl⟩ := unpackFloat_eq_ok hh
    rw [← sixUnits_unitAt (trReadAnswer_length hr)] at hr
    refine ⟨_, _, _, _, _, _, _, hw, hr, ?_, rfl, rfl, rfl, rfl⟩
    simp only [List.mem_cons, List.not_mem_nil, or_false, forall_eq_or_imp, forall_eq]
    exact ⟨v0, v1, v2, v3, v4, v5⟩

/-! ### What a step with no reset waiting can do to the registers -/

/-- What a step with no reset waiting leaves: the registers as they were; or, on the sequencer's turn, the move of WAITING, an error of the
state-step taken, or the state-step's success with what its command returned. -/
inductive StepEffect (s t : State) : Prop where
  | quiet (same : SameRegisters s t)
  | waiting (turn : SequencerTurn s) (h : s.state = 2#3) (code : BitVec 3) (next : t = { s with state := code })
  | failed (turn : SequencerTurn s) (e : CoreError) (raisable : Raisable e) (frame : List Byte) (n : Nat) (f : BitVec 4)
      (next : t = ({ s.transact frame n with flags := f } : State).takeError e s.state)
  | initInterval (turn : SequencerTurn s) (h : s.state = 4#3) (v : U16)
      (next : t = initIntervalAfter (.ok v) (s.transact getIntervalFrame 3))
  | initSet (turn : SequencerTurn s) (h : s.state = 5#3)
      (next : t = initSetAfter (.ok ()) (s.transact (setIntervalFrame s.cfgInterval) 0))
  | initOffset (turn : SequencerTurn s) (h : s.state = 6#3) (v : U16)
      (next : t = initOffsetAfter (.ok v) (s.transact getTempOffsetFrame 3))
  | checkingReady (turn : SequencerTurn s) (h : s.state = 0#3) (v : U16) (returned : wordResult s = .ok v)
      (next : t = checkingReadyAfter (.ok v) (s.transact getReadyFrame 3))
  | reading (turn : SequencerTurn s) (h : s.state = 1#3) (c x y : U32) (returned : measResult s = .ok (c, x, y))
      (next : t = readingAfter (.ok (c, x, y)) (s.transact readMeasFrame 18))
  | stalled (turn : SequencerTurn s) (h : s.state = 3#3) (returned : sendResult s = .ok ())
      (next : t = stalledAfter (.ok ()) (s.transact (triggerContFrame s.cfgPressure) 0))

/-- A state-step has one of the effects: the result of its command, where it runs one, tells success from failure. -/
theorem stepEffect_of_stateStep {s t : State} (turn : SequencerTurn s) (h : StateStep s t) : StepEffect s t := by
  cases h with
  | initInterval h _ next =>
    cases hr : wordResult s with
    | ok v => exact .initInterval turn h v (hr ▸ next)
    | error e => exact .failed turn e (wordResult_raisable hr) getIntervalFrame 3 s.flags (by rw [next, hr, h]; rfl)
  | initSet h _ next =>
    cases hr : sendResult s with
    | ok v => exact .initSet turn h (hr ▸ next)
    | error e =>
      exact .failed turn e (sendResult_raisable hr) (setIntervalFrame s.cfgInterval) 0 s.flags
        (by rw [next, hr, h]; rfl)
  | initOffset h _ next =>
    cases hr : wordResult s with
    | ok v => exact .initOffset turn h v (hr ▸ next)
    | error e => exact .failed turn e (wordResult_raisable hr) getTempOffsetFrame 3 s.flags (by rw [next, hr, h]; rfl)
  | checkingReady h _ next =>
    cases hr : wordResult s with
    | ok v => exact .checkingReady turn h v hr (hr ▸ next)
    | error e =>
      exact .failed turn e (wordResult_raisable hr) getReadyFrame 3
        (withFlag (withFlag s.flags flagReady false) flagAnomaly false) (by rw [next, hr, h]; rfl)
  | reading h _ next =>
    cases hr : measResult s with
    | ok m => exact .reading turn h m.1 m.2.1 m.2.2 hr (hr ▸ next)
    | error e => exact .failed turn e (measResult_raisable hr) readMeasFrame 18 s.flags (by rw [next, hr, h]; rfl)
  | waiting h next => exact .waiting turn h _ next
  | stalled h _ next =>
    cases hr : sendResult s with
    | ok v => exact .stalled turn h hr (hr ▸ next)
    | error e =>
      exact .failed turn e (sendResult_raisable hr) (triggerContFrame s.cfgPressure) 0 s.flags
        (by rw [next, hr, h]; rfl)
  | halted _ next => exact .quiet (by subst next; constructor <;> rfl)
  | hung frame n _ unanswered next => exact .quiet (by subst next; exact (hang_leaves unanswered).1)

/-- Only the sequencer's turn writes registers: an answer at the function port and a command run by itself are quiet. -/
theorem stepEffect_of_step {s t : State} (hr : s.rst = false) (hs : step s = .next t) : StepEffect s t := by
  cases stepKind_of_step hs with
  | reset h => simp [hr] at h
  | port _ _ _ _ r next => exact .quiet (by subst next; constructor <;> rfl)
  | command _ _ _ frame n _ next =>
    rcases next with ⟨hu, rfl⟩ | ⟨-, r, rfl⟩
    · exact .quiet (hang_leaves hu).1
    · exact .quiet (by constructor <;> rfl)
  | sequencer turn h => exact stepEffect_of_stateStep turn h

/-- CHECKING_READY on a word moves no register but FLAGS, STALL and STATE: to READING with STALL kept on 1, else to WAITING with STALL
advanced (R144). -/
theorem checkingReadyAfter_ok {v : U16} {s t : State} (h : t = checkingReadyAfter (.ok v) s) :
    SameRegisters { s with flags := t.flags, stall := t.stall, state := t.state } t ∧
    (t.stall = s.stall ∨ v ≠ 1#16 ∧ t.state = 2#3 ∧ t.stall = s.stall + s.cfgPollElapsed.setWidth 17) := by
  simp only [checkingReadyAfter] at h
  by_cases h1 : v = 1#16
  · rw [if_pos h1] at h
    subst h
    exact ⟨by constructor <;> rfl, .inl rfl⟩
  · rw [if_neg h1] at h
    split at h <;> subst h
    · exact ⟨by constructor <;> simp [State.setReadyFlags], .inr ⟨h1, rfl, by simp [State.setReadyFlags]⟩⟩
    · exact ⟨by constructor <;> simp [State.setReadyFlags], .inr ⟨h1, rfl, by simp [State.setReadyFlags]⟩⟩

/-! ### The statements -/

/-- Settles O43: no effect of a step with no reset waiting writes a configuration register. -/
theorem configurationIsWrittenByResetOnly : Obligations.ConfigurationIsWrittenByResetOnly := by
  intro s t hr hs
  cases stepEffect_of_step hr hs with
  | quiet same => exact ⟨same.cfgAddr, same.cfgInterval, same.cfgPressure, same.cfgPollElapsed⟩
  | checkingReady _ _ _ _ next =>
    obtain ⟨same, -⟩ := checkingReadyAfter_ok next
    exact ⟨same.cfgAddr, same.cfgInterval, same.cfgPressure, same.cfgPollElapsed⟩
  | failed _ _ _ _ _ _ next => simp [next]
  | waiting | initInterval | initSet | initOffset | reading | stalled =>
    subst_vars
    exact ⟨rfl, rfl, rfl, rfl⟩

/-- Settles O44: of the effects of a step only three can change STALL. -/
theorem stallIsWrittenInThreePlaces : Obligations.StallIsWrittenInThreePlaces := by
  intro s t hr hs hne
  cases stepEffect_of_step hr hs with
  | quiet same => exact absurd same.stall hne
  | checkingReady turn h v returned next =>
    obtain ⟨-, same | ⟨hv, hstate, hstall⟩⟩ := checkingReadyAfter_ok next
    · exact absurd same hne
    · obtain ⟨evs, hw⟩ := answers_of_wordResult [0x02#8, 0x02#8] returned
      exact ⟨turn, .inl ⟨h, hstate, hstall, v, evs, hw, hv⟩⟩
  | stalled turn h returned next =>
    subst next
    obtain ⟨evs, hw⟩ := succeeds_of_sendResult [] returned
    exact ⟨turn, .inr (.inl ⟨h, rfl, _, evs, hw⟩)⟩
  | reading turn h c x y returned next =>
    subst next
    obtain ⟨evs, hm⟩ := answers_of_measResult returned
    exact ⟨turn, .inr (.inr ⟨h, rfl, c, x, y, evs, hm⟩)⟩
  | failed _ _ _ _ _ _ next => simp [next] at hne
  | waiting | initInterval | initSet | initOffset =>
    subst_vars
    exact absurd rfl hne

/-- Settles O45: DEV_INTERVAL, TEMP_OFFSET and the MEAS registers each move in one effect only. -/
theorem eachDataRegisterHasOneWriter : Obligations.EachDataRegisterHasOneWriter := by
  intro s t hr hs
  cases stepEffect_of_step hr hs with
  | quiet same => simp [same.devInterval, same.tempOffset, same.measCo2, same.measT, same.measRh]
  | checkingReady _ _ _ _ next =>
    obtain ⟨same, -⟩ := checkingReadyAfter_ok next
    simp [same.devInterval, same.tempOffset, same.measCo2, same.measT, same.measRh]
  | initInterval turn h _ next =>
    subst next
    exact ⟨fun _ => ⟨turn, h⟩, fun hne => absurd rfl hne, by simp [initIntervalAfter]⟩
  | initOffset turn h _ next =>
    subst next
    exact ⟨fun hne => absurd rfl hne, fun _ => ⟨turn, h⟩, by simp [initOffsetAfter]⟩
  | reading turn h c x y _ next =>
    subst next
    exact ⟨fun hne => absurd rfl hne, fun hne => absurd rfl hne,
      fun _ => ⟨turn, h, c, x, y, rfl, rfl, rfl, by simp [readingAfter]⟩⟩
  | waiting | failed | initSet | stalled =>
    subst_vars
    simp [initSetAfter, stalledAfter]

/-- Taking an error the command can raise leaves the record of R30 and the matching STATUS last (R149). -/
theorem takeError_record {e : CoreError} (h : Raisable e) (code : BitVec 3) (s : State) :
    (∃ x y, x ≠ y ∧ (s.takeError e code).errKind = 1#2 ∧ (s.takeError e code).errExpected = x ∧
      (s.takeError e code).errActual = y ∧
      (s.takeError e code).trace.getLast? = some (.status (.crcMismatch x y code))) ∨
    ((s.takeError e code).errKind = 2#2 ∧ (s.takeError e code).errExpected = 0#8 ∧
      (s.takeError e code).errActual = 0#8 ∧
      (s.takeError e code).trace.getLast? = some (.status (.ioError code))) := by
  cases e with
  | crcMismatch x y => exact .inl ⟨x, y, h, rfl, rfl, rfl, by simp [statusOf]⟩
  | ioError => exact .inr ⟨rfl, rfl, rfl, by simp [statusOf]⟩

/-- Taking an error sets FLAGS.ERR, in either phase (R149). -/
theorem takeError_flagErr (e : CoreError) (code : BitVec 3) (s : State) :
    (s.takeError e code).flags.getLsbD 2 = true := by
  rw [takeError_flags]
  split <;> simp [flagErr, flagFatal]

/-- Settles O46: only a taken error writes the record. -/
theorem errorRecordIsWrittenOnErrorsOnly : Obligations.ErrorRecordIsWrittenOnErrorsOnly := by
  intro s t hr hs
  cases stepEffect_of_step hr hs with
  | quiet same => exact .inl ⟨same.errKind, same.errExpected, same.errActual, same.errState⟩
  | checkingReady _ _ _ _ next =>
    obtain ⟨same, -⟩ := checkingReadyAfter_ok next
    exact .inl ⟨same.errKind, same.errExpected, same.errActual, same.errState⟩
  | failed turn e raisable _ _ _ next =>
    subst next
    exact .inr ⟨turn, rfl, takeError_flagErr .., takeError_record raisable ..⟩
  | waiting | initInterval | initSet | initOffset | reading | stalled =>
    subst_vars
    exact .inl ⟨rfl, rfl, rfl, rfl⟩

/-- Settles O50: a launch is checked for its address first, then for its poll-elapsed amount. -/
theorem illegalLaunchIsRefused : Obligations.IllegalLaunchIsRefused := by
  intro s hr
  rw [step_reset hr]
  exact ⟨fun ha => by simp [takeReset, ha], fun ha he => by simp [takeReset, ha, he]⟩

/-- Settles O51: each clause of the invariant is read off the state after reset. -/
theorem resetStateSatisfiesInvariant : Obligations.ResetStateSatisfiesInvariant :=
  { addr := rfl
    elapsed := by decide
    stallBound := Nat.zero_le _
    stallLow := fun _ => Nat.zero_le _
    stallHigh := fun h => absurd h (by decide)
    stallZero := fun _ => rfl
    fatal := by decide
    oneOutcome := by decide
    readingReady := fun h => absurd h (by decide)
    errKind := by decide
    noError := fun _ => ⟨rfl, rfl, rfl, rfl⟩
    crcRecord := fun h => absurd h (by decide)
    ioRecord := fun _ => ⟨rfl, rfl⟩
    errState := by decide
    measTogether := ⟨rfl, rfl⟩
    devKnown := fun h => absurd rfl h
    alignNeeded := fun h => absurd h (by decide)
    offsetKnown := fun h => absurd h (by decide)
    flightLegal := fun _ h => absurd h (by simp [State.reset]) }

end Sys2Proof.Machine
end

section
/-! PROOF. What cannot influence what: the response of the function port, the operation-local storage, and the host-view registers over a
run. A part of the state that no rule reads is hidden by overwriting it, and a step of the overwritten state is, with the part hidden, the
step of the state itself. -/

namespace Sys2Proof.Machine

/-! ### The function port -/

/-- Each of the five primitives answers at the port with a result that is the same in every state (R34, R100, R110). -/
theorem exec_of_decodeFn_uniform {sel : BitVec 3} {x : BitVec 48} {i : Instr} (h : decodeFn sel x = .ok i) :
    ∃ r, ∀ s, exec i s = .next (s.fnRespond r) := by
  unfold decodeFn at h
  repeat' split at h
  all_goals cases h
  all_goals exact ⟨_, fun _ => rfl⟩

/-- Settles O23: the response is made of the primitive's result, the same in both states, and the draw. -/
theorem fnResponseIsTheSameInStatesOfEqualDraws : Obligations.FnResponseIsTheSameInStatesOfEqualDraws := by
  intro sel x i s s' hd hdraws
  obtain ⟨r, hr⟩ := exec_of_decodeFn_uniform hd
  exact ⟨_, _, hr s, hr s', by simp [hdraws], by simp⟩

/-! ### Hiding a part of the state -/

/-- The parts of the state that no rule reads: the operation-local storage (R32); that and FLAGS, ERR_*, DEV_INTERVAL, TEMP_OFFSET, MEAS_*
and the last responses (R27 to R31). -/
inductive Unread where
  | locals
  | hostView

/-- The state with the unread part overwritten by fixed values. -/
def State.hide : Unread → State → State
  | .locals, s => { s with crc := 0#8, txbuf := [], rxbuf := [] }
  | .hostView, s =>
    { s with
      crc := 0#8, txbuf := [], rxbuf := [], devInterval := none, tempOffset := none, flags := 0#4, errKind := 0#2,
      errExpected := 0#8, errActual := 0#8, errState := 0#3, measCo2 := none, measT := none, measRh := none,
      fnResp := none, cmdResult := none }

/-- An outcome with the unread part of its state hidden. -/
def hideOutcome (p : Unread) : Host.Outcome State Fault Refusal → Host.Outcome State Fault Refusal
  | .next s => .next (s.hide p)
  | .fault r => .fault r
  | .refused r => .refused r

theorem hideOutcome_eq_next {p : Unread} {a : Host.Outcome State Fault Refusal} {t : State}
    (h : hideOutcome p a = .next (t.hide p)) : ∃ s, a = .next s ∧ s.hide p = t.hide p := by
  cases a with
  | next s => exact ⟨s, rfl, Host.Outcome.next.inj h⟩
  | fault | refused => cases h

theorem hideOutcome_eq_fault {p : Unread} {a : Host.Outcome State Fault Refusal} {r : Fault}
    (h : hideOutcome p a = .fault r) : a = .fault r := by
  cases a <;> cases h
  rfl

theorem hideOutcome_eq_refused {p : Unread} {a : Host.Outcome State Fault Refusal} {r : Refusal}
    (h : hideOutcome p a = .refused r) : a = .refused r := by
  cases a <;> cases h
  rfl

/-- Hiding the operation-local storage leaves equal exactly the states that differ in it only. -/
theorem sameButLocals_iff {s t : State} : SameButLocals s t ↔ s.hide .locals = t.hide .locals := Iff.rfl

/-- Hiding the host view leaves equal exactly the states that behave the same. -/
theorem sameBehaviour_iff {s t : State} : SameBehaviour s t ↔ s.hide .hostView = t.hide .hostView := by
  constructor
  · rintro ⟨⟩
    simp_all [State.hide]
  · intro h
    simp only [State.hide, State.mk.injEq] at h
    constructor <;> simp_all

theorem sameOutcome_iff {a b : Host.Outcome State Fault Refusal} :
    SameOutcome a b ↔ hideOutcome .hostView a = hideOutcome .hostView b := by
  cases a <;> cases b <;> simp [SameOutcome, hideOutcome, sameBehaviour_iff]

/-! ### No rule reads the hidden part -/

section
variable (p : Unread) (s : State)

@[simp] theorem hide_rst : (s.hide p).rst = s.rst := by cases p <;> rfl
@[simp] theorem hide_inFlight : (s.hide p).inFlight = s.inFlight := by cases p <;> rfl
@[simp] theorem hide_cfgPort : (s.hide p).cfgPort = s.cfgPort := by cases p <;> rfl
@[simp] theorem hide_cfgInterval : (s.hide p).cfgInterval = s.cfgInterval := by cases p <;> rfl
@[simp] theorem hide_cfgPressure : (s.hide p).cfgPressure = s.cfgPressure := by cases p <;> rfl
@[simp] theorem hide_stall : (s.hide p).stall = s.stall := by cases p <;> rfl
@[simp] theorem fetch_hide : fetch (s.hide p) = fetch s := by cases p <;> rfl
@[simp] theorem xferUnanswered_hide (n : Nat) : xferUnanswered n (s.hide p) = xferUnanswered n s := by cases p <;> rfl
@[simp] theorem wordResult_hide : wordResult (s.hide p) = wordResult s := by cases p <;> rfl
@[simp] theorem sendResult_hide : sendResult (s.hide p) = sendResult s := by cases p <;> rfl
@[simp] theorem measResult_hide : measResult (s.hide p) = measResult s := by cases p <;> rfl

@[simp] theorem hide_resetRegisters : (s.hide p).resetRegisters.hide p = s.resetRegisters.hide p := by cases p <;> rfl

@[simp] theorem hide_fnRespond (r : Except CoreError U32) :
    ((s.hide p).fnRespond r).hide p = (s.fnRespond r).hide p := by cases p <;> rfl

@[simp] theorem hide_hang (frame : List Byte) (n : Nat) :
    ((s.hide p).hang frame n).hide p = (s.hang frame n).hide p := by cases p <;> rfl

@[simp] theorem hide_transact (frame : List Byte) (n : Nat) :
    ((s.hide p).transact frame n).hide p = (s.transact frame n).hide p := by cases p <;> rfl

end

/-- A function of the state that carries nothing from the hidden part to the rest. -/
def Blind (p : Unread) (f : State → State) : Prop := ∀ s, (f (s.hide p)).hide p = (f s).hide p

theorem Blind.congr {p : Unread} {f : State → State} (hf : Blind p f) {s t : State} (h : s.hide p = t.hide p) :
    (f s).hide p = (f t).hide p := by rw [← hf s, h, hf t]

section
variable (p : Unread)

theorem retireCommand_blind (r : CmdResult) : Blind p (State.retireCommand r) := by
  intro s; cases p <;> rfl

theorem takeError_blind (e : CoreError) (code : BitVec 3) : Blind p (State.takeError e code) := by
  intro s; cases p <;> rfl

theorem initIntervalAfter_blind (r : Except CoreError U16) : Blind p (initIntervalAfter r) := by
  intro s
  cases r with
  | error e => exact takeError_blind p e _ s
  | ok v => cases p <;> rfl

theorem initSetAfter_blind (r : Except CoreError Unit) : Blind p (initSetAfter r) := by
  intro s
  cases r with
  | error e => exact takeError_blind p e _ s
  | ok v => cases p <;> rfl

theorem initOffsetAfter_blind (r : Except CoreError U16) : Blind p (initOffsetAfter r) := by
  intro s
  cases r with
  | error e => exact takeError_blind p e _ s
  | ok v => cases p <;> rfl

theorem checkingReadyAfter_blind (r : Except CoreError U16) : Blind p (checkingReadyAfter r) := by
  intro s
  cases r with
  | error e => cases p <;> rfl
  | ok v =>
    simp only [checkingReadyAfter]
    split
    · cases p <;> rfl
    · split <;> cases p <;> rfl

theorem stalledAfter_blind (r : Except CoreError Unit) : Blind p (stalledAfter r) := by
  intro s
  cases r with
  | error e => exact takeError_blind p e _ s
  | ok v => cases p <;> rfl

theorem readingAfter_blind (r : Except CoreError (U32 × U32 × U32)) : Blind p (readingAfter r) := by
  intro s
  cases r with
  | error e => exact takeError_blind p e _ s
  | ok v => cases p <;> rfl

/-- Whatever runs a command is blind where what follows the command is. -/
theorem runTransaction_hide {after : State → State} (ha : Blind p after) (frame : List Byte) (n : Nat) (s : State) :
    hideOutcome p (runTransaction frame n after (s.hide p)) = hideOutcome p (runTransaction frame n after s) := by
  simp only [runTransaction, xferUnanswered_hide, hideOutcome, Host.Outcome.next.injEq]
  split
  · exact hide_hang p s frame n
  · exact ha.congr (hide_transact p s frame n)

theorem takeReset_hide (s : State) : hideOutcome p (takeReset (s.hide p)) = hideOutcome p (takeReset s) := by
  simp only [takeReset, hide_cfgPort]
  split
  · rfl
  · split
    · rfl
    · simp [hideOutcome]

/-- No operation carries anything from the hidden part to the rest. -/
theorem exec_hide (i : Instr) (s : State) : hideOutcome p (exec i (s.hide p)) = hideOutcome p (exec i s) := by
  cases i with
  | crc8 | packWord | unpackWord | unpackBytes | unpackFloat => exact congrArg Host.Outcome.next (hide_fnRespond p s _)
  | getReady | getInterval | getTempOffset =>
    simp only [exec, execGetReady, execGetInterval, execGetTempOffset, wordResult_hide]
    exact runTransaction_hide p (retireCommand_blind p _) _ _ s
  | setInterval | triggerCont =>
    simp only [exec, execSetInterval, execTriggerCont, sendResult_hide]
    exact runTransaction_hide p (retireCommand_blind p _) _ _ s
  | readMeas =>
    simp only [exec, execReadMeas, measResult_hide]
    exact runTransaction_hide p (retireCommand_blind p _) _ _ s
  | checkingReady =>
    simp only [exec, execCheckingReady, wordResult_hide]
    exact runTransaction_hide p (checkingReadyAfter_blind p _) _ _ s
  | reading =>
    simp only [exec, execReading, measResult_hide]
    exact runTransaction_hide p (readingAfter_blind p _) _ _ s
  | waiting => cases p <;> rfl
  | stalled =>
    simp only [exec, execStalled, sendResult_hide, hide_cfgPressure]
    exact runTransaction_hide p (stalledAfter_blind p _) _ _ s
  | initInterval =>
    simp only [exec, execInitInterval, wordResult_hide]
    exact runTransaction_hide p (initIntervalAfter_blind p _) _ _ s
  | initSet =>
    simp only [exec, execInitSet, sendResult_hide, hide_cfgInterval]
    exact runTransaction_hide p (initSetAfter_blind p _) _ _ s
  | initOffset =>
    simp only [exec, execInitOffset, wordResult_hide]
    exact runTransaction_hide p (initOffsetAfter_blind p _) _ _ s
  | halted => cases p <;> rfl

theorem step_hide (s : State) : hideOutcome p (step (s.hide p)) = hideOutcome p (step s) := by
  simp only [step, hide_rst, hide_inFlight, fetch_hide]
  split
  · exact takeReset_hide p s
  · split
    · rfl
    · split
      · exact exec_hide p _ s
      · rfl

/-- States that differ in the hidden part only step to outcomes that differ in it only. -/
theorem step_congr_hide {s t : State} (h : s.hide p = t.hide p) : hideOutcome p (step s) = hideOutcome p (step t) := by
  rw [← step_hide p s, h, step_hide p t]

/-- So do any number of steps: one step keeps the two alike or stops both for the same reason. -/
theorem runs_congr_hide (k : Nat) {s t : State} (h : s.hide p = t.hide p) :
    hideOutcome p (runs k s) = hideOutcome p (runs k t) := by
  induction k generalizing s t with
  | zero => exact congrArg Host.Outcome.next h
  | succ k ih =>
    have hstep := (step_congr_hide p h).symm
    cases e : step s with
    | next u =>
      rw [e] at hstep
      obtain ⟨v, e', hv⟩ := hideOutcome_eq_next hstep
      rw [runs_next e, runs_next e']
      exact ih hv.symm
    | fault r =>
      rw [e] at hstep
      rw [runs_fault k e, runs_fault k (hideOutcome_eq_fault hstep)]
    | refused r =>
      rw [e] at hstep
      rw [runs_refused k e, runs_refused k (hideOutcome_eq_refused hstep)]

end

/-- Settles O59: machines that behave the same are equal with the host view hidden, and stay so over a run. -/
theorem hostViewRegistersNeverInfluenceBehaviour : Obligations.HostViewRegistersNeverInfluenceBehaviour :=
  fun k _ _ h => sameOutcome_iff.2 (runs_congr_hide .hostView k (sameBehaviour_iff.1 h))

/-- Settles O60: the outcomes are equal with the operation-local storage hidden, so they are of one kind. -/
theorem operationLocalStorageIsNeverRead : Obligations.OperationLocalStorageIsNeverRead := by
  intro s s' h
  have hstep := (step_congr_hide .locals (sameButLocals_iff.1 h)).symm
  refine ⟨fun t ht => ?_, fun r hr => ?_, fun r hr => ?_⟩
  · rw [ht] at hstep
    obtain ⟨t', ht', hide_eq⟩ := hideOutcome_eq_next hstep
    exact ⟨t', ht', sameButLocals_iff.2 hide_eq.symm⟩
  · rw [hr] at hstep
    exact hideOutcome_eq_fault hstep
  · rw [hr] at hstep
    exact hideOutcome_eq_refused hstep

end Sys2Proof.Machine
end

section
/-! PROOF. The transport: every answer it can give a command is one the statements about commands speak of, and every step appends to the
history the transactions of at most one command, then what the state-step presents. -/

namespace Sys2Proof.Machine

/-! ### What the transport answers -/

/-- A command that is not left waiting had its write answered (R51). -/
theorem write_answered {n : Nat} {s : State} (h : ¬ Unanswered n s) :
    trWriteAnswer s = .ok ∨ trWriteAnswer s = .ioError := by
  cases hw : trWriteAnswer s with
  | ok => exact .inl rfl
  | ioError => exact .inr rfl
  | never => exact absurd (.inl hw) h

/-- A command that reads and is not left waiting ends in one of three ways: its write fails, its read fails, or it gets the bytes it asked
for, neither fewer nor more (R51, R52). -/
theorem read_answered {n : Nat} {s : State} (hn : n ≠ 0) (h : ¬ Unanswered n s) :
    trWriteAnswer s = .ioError ∨
    trWriteAnswer s = .ok ∧ trReadAnswer n s = .ioError ∨
    ∃ bs, trWriteAnswer s = .ok ∧ trReadAnswer n s = .bytes bs ∧ bs.length = n := by
  rcases write_answered h with hw | hw
  · cases hr : trReadAnswer n s with
    | bytes bs => exact .inr (.inr ⟨bs, hw, rfl, trReadAnswer_length hr⟩)
    | ioError => exact .inr (.inl ⟨hw, rfl⟩)
    | never => exact absurd (.inr ⟨hn, hw, hr⟩) h
  · exact .inl hw

/-- Wire units in order are all valid, or one of them is the first that is not (R176). -/
theorem allValid_or_firstInvalid (us : List WireUnit) : (∀ u ∈ us, UnitValid u) ∨ ∃ u, FirstInvalid us u := by
  induction us with
  | nil => exact .inl (by simp)
  | cons u us ih =>
    by_cases hu : UnitValid u
    · rcases ih with hv | ⟨v, before, after, rfl, hv, hi⟩
      · exact .inl (List.forall_mem_cons.2 ⟨hu, hv⟩)
      · exact .inr ⟨v, u :: before, after, rfl, List.forall_mem_cons.2 ⟨hu, hv⟩, hi⟩
    · exact .inr ⟨u, [], us, rfl, by simp, hu⟩

/-- A word command that is not left waiting answers a word or fails (R121, R176). -/
theorem wordAnswers_or_wordFails (frame : List Byte) {s : State} (h : ¬ Unanswered 3 s) :
    (∃ v evs, WordAnswers frame s v evs) ∨ ∃ e evs, WordFails frame s e evs := by
  rcases read_answered (by decide) h with hw | ⟨hw, hr⟩ | ⟨bs, hw, hr, hlen⟩
  · exact .inr ⟨_, _, .inl ⟨hw, rfl, rfl⟩⟩
  · exact .inr ⟨_, _, .inr (.inl ⟨hw, hr, rfl, rfl⟩)⟩
  · obtain ⟨b0, b1, b2, rfl⟩ := List.length_eq_three.1 hlen
    by_cases hc : crc8 b0 b1 = b2
    · exact .inl ⟨_, _, b0, b1, b2, hw, hr, hc, rfl, rfl⟩
    · exact .inr ⟨_, _, .inr (.inr ⟨b0, b1, b2, hw, hr, hc, rfl, rfl⟩)⟩

/-- A fire-and-forget command that is not left waiting succeeds or fails (R121). -/
theorem sendSucceeds_or_sendFails (frame : List Byte) {s : State} (h : ¬ Unanswered 0 s) :
    (∃ evs, SendSucceeds frame s evs) ∨ ∃ evs, SendFails frame s evs :=
  (write_answered h).imp (fun hw => ⟨_, hw, rfl⟩) (fun hw => ⟨_, hw, rfl⟩)

/-- READ_MEAS, if not left waiting, answers three patterns or fails (R128, R176). -/
theorem measAnswers_or_measFails {s : State} (h : ¬ Unanswered 18 s) :
    (∃ c t h evs, MeasAnswers s c t h evs) ∨ ∃ e evs, MeasFails s e evs := by
  rcases read_answered (by decide) h with hw | ⟨hw, hr⟩ | ⟨bs, hw, hr, hlen⟩
  · exact .inr ⟨_, _, .inl ⟨hw, rfl, rfl⟩⟩
  · exact .inr ⟨_, _, .inr (.inl ⟨hw, hr, rfl, rfl⟩)⟩
  · rw [← sixUnits_unitAt hlen] at hr
    rcases allValid_or_firstInvalid
      [unitAt bs 0, unitAt bs 3, unitAt bs 6, unitAt bs 9, unitAt bs 12, unitAt bs 15] with hv | ⟨u, hu⟩
    · exact .inl ⟨_, _, _, _, _, _, _, _, _, _, hw, hr, hv, rfl, rfl, rfl, rfl⟩
    · exact .inr ⟨_, _, .inr (.inr ⟨_, _, _, _, _, _, u, hw, hr, hu, rfl, rfl⟩)⟩

/-- Settles O30: the write, the read's exact length and the checksums leave no further outcome. -/
theorem everyAnswerOfTheTransportIsCovered : Obligations.EveryAnswerOfTheTransportIsCovered :=
  fun frame _ => ⟨wordAnswers_or_wordFails frame, sendSucceeds_or_sendFails frame, measAnswers_or_measFails⟩

/-! ### What a state-step presents after its command -/

/-- An event of the presentation port (R36), none of the transport. -/
inductive Presented : Event → Prop where
  | meas (c x h : U32) : Presented (.meas c x h)
  | status (record : Status) : Presented (.status record)

/-- From `s` to `t` nothing moved at the transport, and the history grew by presentation events only. -/
structure PresentsOnly (s t : State) : Prop where
  trace : ∃ notes, t.trace = s.trace ++ notes ∧ ∀ e ∈ notes, Presented e
  trWrites : t.trWrites = s.trWrites
  trReads : t.trReads = s.trReads

theorem presentsOnly_of_none {s t : State} (ht : t.trace = s.trace) (hw : t.trWrites = s.trWrites)
    (hr : t.trReads = s.trReads) : PresentsOnly s t :=
  ⟨⟨[], by simp [ht], by simp⟩, hw, hr⟩

theorem presentsOnly_of_one {s t : State} {e : Event} (he : Presented e) (ht : t.trace = s.trace ++ [e])
    (hw : t.trWrites = s.trWrites) (hr : t.trReads = s.trReads) : PresentsOnly s t :=
  ⟨⟨[e], ht, by simpa using he⟩, hw, hr⟩

/-- Taking an error presents its STATUS (R149). -/
theorem takeError_presentsOnly (e : CoreError) (code : BitVec 3) (s : State) : PresentsOnly s (s.takeError e code) :=
  presentsOnly_of_one (.status _) (takeError_trace s e code) rfl rfl

theorem initIntervalAfter_presentsOnly (r : Except CoreError U16) (s : State) :
    PresentsOnly s (initIntervalAfter r s) := by
  cases r with
  | error e => exact takeError_presentsOnly e _ s
  | ok v => exact presentsOnly_of_none rfl rfl rfl

theorem initSetAfter_presentsOnly (r : Except CoreError Unit) (s : State) : PresentsOnly s (initSetAfter r s) := by
  cases r with
  | error e => exact takeError_presentsOnly e _ s
  | ok v => exact presentsOnly_of_none rfl rfl rfl

theorem initOffsetAfter_presentsOnly (r : Except CoreError U16) (s : State) : PresentsOnly s (initOffsetAfter r s) := by
  cases r with
  | error e => exact takeError_presentsOnly e _ s
  | ok v => exact presentsOnly_of_none rfl rfl rfl

/-- CHECKING_READY presents an error, or a word that is neither 0 nor 1 as an anomaly (R144). -/
theorem checkingReadyAfter_presentsOnly (r : Except CoreError U16) (s : State) :
    PresentsOnly s (checkingReadyAfter r s) := by
  cases r with
  | error e =>
    exact presentsOnly_of_one (.status (statusOf Code.checkingReady e)) (by simp [checkingReadyAfter])
      (by simp [checkingReadyAfter]) (by simp [checkingReadyAfter])
  | ok v =>
    simp only [checkingReadyAfter, State.setReadyFlags]
    split
    · exact presentsOnly_of_none (by simp) (by simp) (by simp)
    · split
      · exact presentsOnly_of_none (by simp) (by simp) (by simp)
      · exact presentsOnly_of_one (.status (.protocolAnomaly v)) (by simp) (by simp) (by simp)

theorem stalledAfter_presentsOnly (r : Except CoreError Unit) (s : State) : PresentsOnly s (stalledAfter r s) := by
  cases r with
  | error e => exact takeError_presentsOnly e _ s
  | ok v => exact presentsOnly_of_none rfl rfl rfl

/-- READING presents an error, or the measurement (R147). -/
theorem readingAfter_presentsOnly (r : Except CoreError (U32 × U32 × U32)) (s : State) :
    PresentsOnly s (readingAfter r s) := by
  cases r with
  | error e => exact takeError_presentsOnly e _ s
  | ok m => exact presentsOnly_of_one (.meas m.1 m.2.1 m.2.2) rfl rfl rfl

/-! ### The transactions of a step -/

/-- The frames and read lengths a command may have (R56, R75). -/
structure LegalCommand (frame : List Byte) (n : Nat) : Prop where
  frame : frame.length = 2 ∨ frame.length = 5
  read : n = 0 ∨ n = 3 ∨ n = 18

theorem legalCommand_cmd2 (hi lo : Byte) {n : Nat} (hn : n = 3 ∨ n = 18) : LegalCommand (cmd2 hi lo) n :=
  ⟨.inl (cmd2_length hi lo), .inr hn⟩

theorem legalCommand_cmd5 (hi lo : Byte) (a : U16) : LegalCommand (cmd5 hi lo a) 0 :=
  ⟨.inr (cmd5_length hi lo a), .inl rfl⟩

/-- What a step does at the transport: nothing; the transactions of one command, then presentations; or it is blocked in one. -/
inductive TransportEffect (s t : State) : Prop where
  | idle (trace : t.trace = s.trace) (trWrites : t.trWrites = s.trWrites) (trReads : t.trReads = s.trReads)
  | transacted (frame : List Byte) (n : Nat) (legal : LegalCommand frame n) (after : PresentsOnly (s.transact frame n) t)
  | hung (frame : List Byte) (n : Nat) (legal : LegalCommand frame n) (unanswered : Unanswered n s)
      (next : t = s.hang frame n)

/-- Each state-step runs at most one command, of a legal frame and read length. -/
theorem transportEffect_of_stateStep {s t : State} (h : StateStep s t) : TransportEffect s t := by
  cases h with
  | initInterval _ _ next =>
    exact .transacted _ _ (legalCommand_cmd2 _ _ (.inl rfl)) (next ▸ initIntervalAfter_presentsOnly ..)
  | initSet _ _ next => exact .transacted _ _ (legalCommand_cmd5 _ _ _) (next ▸ initSetAfter_presentsOnly ..)
  | initOffset _ _ next =>
    exact .transacted _ _ (legalCommand_cmd2 _ _ (.inl rfl)) (next ▸ initOffsetAfter_presentsOnly ..)
  | checkingReady _ _ next =>
    exact .transacted _ _ (legalCommand_cmd2 _ _ (.inl rfl)) (next ▸ checkingReadyAfter_presentsOnly ..)
  | reading _ _ next =>
    exact .transacted _ _ (legalCommand_cmd2 _ _ (.inr rfl)) (next ▸ readingAfter_presentsOnly ..)
  | stalled _ _ next => exact .transacted _ _ (legalCommand_cmd5 _ _ _) (next ▸ stalledAfter_presentsOnly ..)
  | waiting | halted =>
    subst_vars
    exact .idle rfl rfl rfl
  | hung frame n command unanswered next =>
    refine .hung frame n ?_ unanswered next
    rcases command with ⟨-, rfl, rfl⟩ | ⟨-, rfl, rfl⟩ | ⟨-, rfl, rfl⟩ | ⟨-, rfl, rfl⟩ | ⟨-, rfl, rfl⟩ | ⟨-, rfl, rfl⟩
    · exact legalCommand_cmd2 _ _ (.inl rfl)
    · exact legalCommand_cmd5 _ _ _
    · exact legalCommand_cmd2 _ _ (.inl rfl)
    · exact legalCommand_cmd2 _ _ (.inl rfl)
    · exact legalCommand_cmd2 _ _ (.inr rfl)
    · exact legalCommand_cmd5 _ _ _

theorem transportEffect_of_step {s t : State} (hs : step s = .next t) : TransportEffect s t := by
  cases stepKind_of_step hs with
  | reset | port =>
    subst_vars
    exact .idle rfl rfl rfl
  | command _ _ _ frame n shape next =>
    have legal : LegalCommand frame n := by
      rcases shape with ⟨rfl, hi, lo, a, rfl⟩ | ⟨hn, hi, lo, rfl⟩
      · exact legalCommand_cmd5 hi lo a
      · exact legalCommand_cmd2 hi lo hn
    rcases next with ⟨hu, rfl⟩ | ⟨-, r, rfl⟩
    · exact .hung frame n legal hu rfl
    · exact .transacted frame n legal (presentsOnly_of_none rfl rfl rfl)
  | sequencer _ h => exact transportEffect_of_stateStep h

/-! ### The events of a step -/

/-- Presentations hold no transaction, of either kind. -/
theorem write_notMem_of_presented {notes : List Event} (h : ∀ e ∈ notes, Presented e) {a : BitVec 7} {bytes : List Byte}
    {ok : Bool} : Event.write a bytes ok ∉ notes := fun he => nomatch h _ he

theorem read_notMem_of_presented {notes : List Event} (h : ∀ e ∈ notes, Presented e) {a : BitVec 7} {n : Nat}
    {r : Option (List Byte)} : Event.read a n r ∉ notes := fun he => nomatch h _ he

theorem counts_of_presented {notes : List Event} (h : ∀ e ∈ notes, Presented e) :
    writesIn notes = 0 ∧ readsIn notes = 0 := by
  constructor <;> refine List.countP_eq_zero.2 fun e he => ?_ <;> cases h e he <;> simp

/-- The bytes of an Ok answer in a read event are as many as were asked for (R52). -/
theorem readBytes_length {n : Nat} {s : State} {bs : List Byte} (h : readBytes (trReadAnswer n s) = some bs) :
    bs.length = n := by
  cases hr : trReadAnswer n s with
  | bytes cs =>
    rw [hr] at h
    cases h
    exact trReadAnswer_length hr
  | ioError | never => simp [hr, readBytes] at h

/-- A command writes its frame to CFG_ADDR and no other bytes (R21, R121). -/
theorem write_mem_xferEvents {frame : List Byte} {n : Nat} {s : State} {a : BitVec 7} {bytes : List Byte} {ok : Bool}
    (h : Event.write a bytes ok ∈ xferEvents frame n s) : a = s.cfgAddr ∧ bytes = frame := by
  unfold xferEvents at h
  split at h <;> simp_all

/-- A command reads, from CFG_ADDR, only what it asks for, directly after its write was answered ok (R21, R52, R121). -/
theorem read_mem_xferEvents {frame : List Byte} {n m : Nat} {s : State} {a : BitVec 7} {r : Option (List Byte)}
    (h : Event.read a m r ∈ xferEvents frame n s) :
    a = s.cfgAddr ∧ m = n ∧ n ≠ 0 ∧ (∀ bs, r = some bs → bs.length = n) ∧
      xferEvents frame n s = [.write a frame true, .read a m r] := by
  cases issued : readIssued n s with
  | false => simp [xferEvents, issued] at h
  | true =>
    obtain ⟨hn, hw⟩ : n ≠ 0 ∧ trWriteAnswer s = .ok := by simpa [readIssued] using issued
    have hx : xferEvents frame n s =
        [.write s.cfgAddr frame true, .read s.cfgAddr n (readBytes (trReadAnswer n s))] := by
      simp [xferEvents, issued, hw]
    obtain ⟨rfl, rfl, rfl⟩ : a = s.cfgAddr ∧ m = n ∧ r = readBytes (trReadAnswer n s) := by simpa [hx] using h
    exact ⟨rfl, rfl, hn, fun _ => readBytes_length, hx⟩

/-- A command followed by presentations holds one write, and one read if the command issued it (R121). -/
theorem counts_of_xferEvents_append (frame : List Byte) (n : Nat) (s : State) {notes : List Event}
    (h : ∀ e ∈ notes, Presented e) :
    writesIn (xferEvents frame n s ++ notes) = 1 ∧
    readsIn (xferEvents frame n s ++ notes) = if readIssued n s then 1 else 0 := by
  obtain ⟨noWrites, noReads⟩ := counts_of_presented h
  unfold writesIn readsIn at *
  rw [List.countP_append, List.countP_append, noWrites, noReads]
  unfold xferEvents
  split <;> simp

/-- Settles O54: idle and blocked steps are read off the state; after a command its one or two transactions come first. -/
theorem stepsAppendLegalTransactions : Obligations.StepsAppendLegalTransactions := by
  intro s t hs
  cases transportEffect_of_step hs with
  | idle trace trWrites trReads =>
    exact ⟨[], by rw [trace, List.append_nil], by simp, by simp, by simp [writesIn], fun _ => ⟨trWrites, trReads⟩⟩
  | hung frame n legal unanswered next =>
    subst next
    obtain ⟨-, -, ⟨-, flight, trace, -⟩ | ⟨-, -, flight, trace, -⟩⟩ := hang_leaves (frame := frame) unanswered
    · exact ⟨[], by rw [trace, List.append_nil], by simp, by simp, by simp [writesIn],
        fun h => nomatch flight.symm.trans h⟩
    · refine ⟨_, trace, ?_, by simp, by simp [writesIn], fun h => nomatch flight.symm.trans h⟩
      rintro a bytes ok h
      cases List.mem_singleton.1 h
      exact ⟨rfl, legal.frame⟩
  | transacted frame n legal after =>
    obtain ⟨⟨notes, trace, presented⟩, trWrites, trReads⟩ := after
    obtain ⟨writes, reads⟩ := counts_of_xferEvents_append frame n s presented
    refine ⟨xferEvents frame n s ++ notes, by simp [trace], ?_, ?_, writes.le, fun _ => ⟨?_, ?_⟩⟩
    · intro a bytes ok h
      obtain ⟨rfl, rfl⟩ :=
        write_mem_xferEvents ((List.mem_append.1 h).resolve_right (write_notMem_of_presented presented))
      exact ⟨rfl, legal.frame⟩
    · intro a m r h
      obtain ⟨rfl, rfl, hn, length, hx⟩ :=
        read_mem_xferEvents ((List.mem_append.1 h).resolve_right (read_notMem_of_presented presented))
      exact ⟨rfl, legal.read.resolve_left hn, length, frame, notes, by simp [hx]⟩
    · simp [trWrites, writes]
    · rw [trReads, transact_trReads, reads]
      split <;> simp

end Sys2Proof.Machine
end

section
/-! PROOF. Encoding, the other direction: encoding what was decoded, the rows of the opcode table told apart, the reserved selectors
refused, and the frame a command writes. -/

namespace Sys2Proof

open Machine

/-! ### Encoding what was decoded -/

/-- The code of a CMD2 frame is read from its two bytes, and encodes back to them (R72, R75). -/
theorem encode_of_decodeCmd2 {code : U16} {i : Instr} (h : decodeCmd2 code = .ok i) :
    encode i = .frame [hiByte code, loByte code] := by
  unfold decodeCmd2 at h
  repeat' split at h
  all_goals cases h
  all_goals subst code; decide

/-- So is that of a CMD5 frame, whose argument and CRC byte are carried as they are (R72, R75). -/
theorem encode_of_decodeCmd5 {code a : U16} {c : Byte} {i : Instr} (h : decodeCmd5 code a c = .ok i) :
    encode i = .frame [hiByte code, loByte code, hiByte a, loByte a, c] := by
  unfold decodeCmd5 at h
  repeat' split at h
  all_goals cases h
  all_goals subst code; rfl

theorem encode_of_decodeFrame {bytes : List Byte} {i : Instr} (h : decodeFrame bytes = .ok i) :
    encode i = .frame bytes := by
  unfold decodeFrame at h
  split at h
  · simpa using encode_of_decodeCmd2 h
  · simpa using encode_of_decodeCmd5 h
  · cases h

/-- Every code of STATE encodes back to itself: none is reserved (R79). -/
theorem encode_decodeState (code : BitVec 3) : encode (decodeState code) = .state code := by
  rcases state_codes code with rfl | rfl | rfl | rfl | rfl | rfl | rfl | rfl <;> rfl

/-- Settles O2: a frame and a value of STATE are each carried whole by the operation they decode to. -/
theorem encodeOfDecodedFrameOrStateGivesItBack : Obligations.EncodeOfDecodedFrameOrStateGivesItBack := by
  intro c i h hfn
  cases c with
  | fn sel x => exact absurd rfl (hfn sel x)
  | frame bytes => exact encode_of_decodeFrame h
  | state code =>
    cases h
    exact encode_decodeState code

/-! ### The rows of the opcode table -/

/-- The width of a format's rows (R75, R78, R79). -/
def Format.width : Format → Nat
  | .fn => 3
  | .cmd2 => 16
  | .cmd5 => 40
  | .state => 3

/-- The mask a format's rows are matched under (R75, R78, R79). -/
def Format.mask : Format → Nat
  | .fn => 0x7
  | .cmd2 => 0xFFFF
  | .cmd5 => 0xFFFF000000
  | .state => 0x7

/-- A row's format fixes its width and its mask: the pattern alone tells the rows of one format apart. -/
theorem row_eq_of_format (i : Instr) :
    i.row = ⟨i.row.format, i.row.format.width, i.row.pattern, i.row.format.mask⟩ := by
  cases i <;> rfl

theorem row_mask (i : Instr) : i.row.mask = i.row.format.mask := congrArg Row.mask (row_eq_of_format i)

/-- Settles O4: rows of one format are matched under one mask, so a word that matches both gives both patterns. -/
theorem tableRowsOfOneFormatNeverOverlap : Obligations.TableRowsOfOneFormatNeverOverlap := by
  intro i j w hformat hi hj
  have hpattern : i.row.pattern = j.row.pattern := by rw [← hi, ← hj, row_mask, row_mask, hformat]
  rw [row_eq_of_format i, hformat, hpattern, ← row_eq_of_format j]

/-! ### The reserved selectors -/

/-- FSEL 5, 6 and 7 select no primitive, whatever fn_in holds (R80). -/
theorem decodeFn_reserved {sel : BitVec 3} (h : 5 ≤ sel.toNat) (x : BitVec 48) :
    decodeFn sel x = .error .reservedFnSelect := by
  have hne : ∀ k : BitVec 3, k.toNat < 5 → sel ≠ k := by
    rintro k hk rfl
    omega
  rw [decodeFn, if_neg (hne _ (by decide)), if_neg (hne _ (by decide)), if_neg (hne _ (by decide)),
    if_neg (hne _ (by decide)), if_neg (hne _ (by decide))]

/-- With no command in the slot the oldest request at the function port is fetched (R34). -/
theorem fetchContainer_of_request {s : State} {q : FnRequest} {rest : List FnRequest} (hslot : s.cmdSlot = none)
    (hqueue : s.fnQueue = q :: rest) : fetchContainer s = .fn q.sel q.inp := by
  simp [fetchContainer, hslot, hqueue]

/-- Settles O8: the request is fetched, and its selector decodes to nothing. -/
theorem reservedFnSelectIsRefused : Obligations.ReservedFnSelectIsRefused := by
  intro s q rest hrst hflight hslot hqueue hsel
  rw [step_eq hrst hflight, fetchContainer_of_request hslot hqueue, decode, decodeFn_reserved hsel]
  rfl

/-! ### The frame a command writes -/

/-- A command whose write is answered writes its frame to CFG_ADDR first, whether it then ends or is blocked in its read (R120, R211). -/
theorem runTransaction_writes_frame {frame : List Byte} {n : Nat} {after : State → State} {s t : State}
    (hafter : ∀ u, (after u).trace = u.trace) (hw : trWriteAnswer s ≠ .never)
    (h : runTransaction frame n after s = .next t) :
    ∃ ok evs, t.trace = s.trace ++ .write s.cfgAddr frame ok :: evs := by
  rcases runTransaction_next.1 h with ⟨hu, rfl⟩ | ⟨-, rfl⟩
  · rcases (hang_leaves (frame := frame) hu).2.2 with ⟨hnever, -⟩ | ⟨-, -, -, trace, -⟩
    · exact absurd hnever hw
    · exact ⟨true, [], trace⟩
  · exact ⟨_, _, (hafter _).trans (transact_trace ..)⟩

/-- The CRC byte of a well-formed CMD5 frame is the one PACK_WORD builds (R72). -/
theorem cmd5_of_frameCrcOk (hi lo : Byte) {a : U16} {c : Byte} (h : frameCrcOk a c = true) :
    cmd5 hi lo a = [hi, lo, hiByte a, loByte a, c] := by
  rw [eq_of_beq h]
  rfl

/-- A well-formed operation encoded as a write frame runs the transaction of that very frame, then keeps its result (R75, R120). -/
theorem exec_of_encode_frame {i : Instr} {bytes : List Byte} (hwf : i.wf = true) (h : encode i = .frame bytes) (s : State) :
    ∃ n r, exec i s = runTransaction bytes n (State.retireCommand r) s := by
  cases i with
  | getReady | getInterval | getTempOffset | readMeas =>
    cases h
    exact ⟨_, _, rfl⟩
  | setInterval a c | triggerCont a c =>
    cases h
    rw [← cmd5_of_frameCrcOk _ _ hwf]
    exact ⟨_, _, rfl⟩
  | crc8 | packWord | unpackWord | unpackBytes | unpackFloat => cases h
  | checkingReady | reading | waiting | stalled | initInterval | initSet | initOffset | halted => cases h

/-- Settles O31: the operation's transaction is that of its own frame, whose write comes first. -/
theorem commandsWriteTheirOwnEncoding : Obligations.CommandsWriteTheirOwnEncoding := by
  intro i s t bytes hwf hencode hw hexec
  obtain ⟨n, r, hrun⟩ := exec_of_encode_frame hwf hencode s
  exact runTransaction_writes_frame (fun u => retireCommand_trace u r) hw (hrun ▸ hexec)

end Sys2Proof
end

section
/-! PROOF. The CRC-8 engine: CRC8 as an affine function of its two bytes, its steps as bijections, the printed table, the reading as a
polynomial remainder, and the errors it detects. -/

namespace Sys2Proof.Machine

/-! ### The linear part of CRC8 -/

/-- CRC8 started from the seed 0: the part of CRC8 that is linear over exclusive-or. -/
def crcLinear (b0 b1 : Byte) : Byte := crcByte (crcByte 0x00#8 b0) b1

theorem crcLinear_xor (a0 a1 b0 b1 : Byte) :
    crcLinear (a0 ^^^ b0) (a1 ^^^ b1) = crcLinear a0 a1 ^^^ crcLinear b0 b1 := by
  simp only [crcLinear, crcByte_eq, crcShifts_xor, BitVec.zero_xor]
  ac_rfl

/-- The seed only adds CRC8(0, 0) = 0x81 (R97). -/
theorem crc8_eq_crcLinear_xor (b0 b1 : Byte) : crc8 b0 b1 = crcLinear b0 b1 ^^^ 0x81#8 := by
  have seed : crcShifts 8 (crcShifts 8 0xFF#8) = 0x81#8 := by decide +kernel
  simp only [crc8_eq, crcLinear, crcByte_eq, crcShifts_xor, BitVec.zero_xor, seed]
  ac_rfl

/-- What flipping bits of the two bytes does to CRC8 does not depend on the bytes. -/
theorem crc8_xor (b0 b1 m0 m1 : Byte) : crc8 (b0 ^^^ m0) (b1 ^^^ m1) = crc8 b0 b1 ^^^ crcLinear m0 m1 := by
  simp only [crc8_eq_crcLinear_xor, crcLinear_xor]
  ac_rfl

/-- Settles O9: on the second pair of bytes the linear part is CRC8 with the seed's contribution taken off. -/
theorem crc8AffineLaw : Obligations.Crc8AffineLaw := by
  intro a0 a1 b0 b1
  rw [crc8_xor, crc8_eq_crcLinear_xor b0 b1, BitVec.xor_assoc, BitVec.xor_assoc, BitVec.xor_self, BitVec.xor_zero]

/-! ### Each step is a bijection -/

/-- CRC_SHIFT loses nothing: the polynomial has its bit 0 set, which marks the shifts that dropped a one (R91). -/
theorem eq_zero_of_crcShift_eq_zero {c : Byte} (h : crcShift c = 0#8) : c = 0#8 := by
  unfold crcShift at h
  split at h
  · have hbit := congrArg (BitVec.getLsbD · 0) h
    simp [Config.crcPoly] at hbit
  · next hmsb =>
    rw [BitVec.msb_eq_decide, decide_eq_true_eq] at hmsb
    bv_omega

theorem crcShift_injective : Function.Injective crcShift := fun a b h => by
  rw [← BitVec.xor_eq_zero_iff] at h ⊢
  exact eq_zero_of_crcShift_eq_zero ((crcShift_xor a b).trans h)

theorem crcShifts_bijective (n : Nat) : Function.Bijective (crcShifts n) := by
  induction n with
  | zero => exact Function.bijective_id
  | succ n ih => exact ih.comp (Finite.injective_iff_bijective.1 crcShift_injective)

/-- CRC_BYTE is a bijection in its second operand, and by the next lemma in its first (R92). -/
theorem crcByte_bijective_right (c : Byte) : Function.Bijective (crcByte c) :=
  (crcShifts_bijective 8).comp (Finite.injective_iff_bijective.1 fun _ _ => (BitVec.xor_right_inj c).1)

theorem crcByte_bijective_left (b : Byte) : Function.Bijective (crcByte · b) :=
  (crcShifts_bijective 8).comp (Finite.injective_iff_bijective.1 fun _ _ => (BitVec.xor_left_inj b).1)

theorem crc8_bijective_right (b0 : Byte) : Function.Bijective (crc8 b0) := crcByte_bijective_right _

/-- Settles O10: CRC8 is CRC_BYTE in its second byte, and one CRC_BYTE after another in its first. -/
theorem crc8IsBijectiveInEachByte : Obligations.Crc8IsBijectiveInEachByte :=
  ⟨crc8_bijective_right, fun b1 => (crcByte_bijective_left b1).comp (crcByte_bijective_right 0xFF#8)⟩

/-! ### The function port -/

/-- A primitive that does nothing but respond moves nothing else of the machine (R34, R100). -/
theorem fnCompletes_of_exec {i : Instr} {s : State} {result : Except CoreError U32} {resp : FnResponse → Prop}
    (h : exec i s = .next (s.fnRespond result)) (hresp : resp (fnResponse s.draws result)) : FnCompletes i s resp :=
  ⟨_, _, h, rfl, hresp, by constructor <;> rfl, rfl, rfl, rfl, rfl, rfl, rfl, rfl, rfl, rfl⟩

/-- Settles O18: the response carries CRC8, and the two corner values are computed. -/
theorem crc8RequestAnswersTheChecksum : Obligations.Crc8RequestAnswersTheChecksum :=
  ⟨decodeFn_crc8, fun _ _ _ => fnCompletes_of_exec rfl ⟨rfl, rfl⟩, by decide +kernel, by decide +kernel,
    fun b0 => (Function.bijective_iff_existsUnique _).1 (crc8_bijective_right b0)⟩

/-! ### The printed table -/

/-- Each entry of the printed table is eight CRC_SHIFT steps of its place: the 256 of them are evaluated once, here (R96). -/
theorem crcTable_eq : crcTable = (List.range 256).map fun i => crcShifts 8 (BitVec.ofNat 8 i) := by
  decide +kernel

theorem crcTable_getElem? (i : Byte) : crcTable[i.toNat]? = some (crcShifts 8 i) := by
  simp [crcTable_eq, List.getElem?_range i.isLt]

theorem crcTable_nodup : crcTable.Nodup := by
  rw [crcTable_eq]
  refine List.Nodup.map_on (fun i hi j hj h => ?_) List.nodup_range
  have hij : BitVec.ofNat 8 i = BitVec.ofNat 8 j := (crcShifts_bijective 8).1 h
  rw [List.mem_range] at hi hj
  bv_omega

/-- T[0xFF] (R96): the seed shifted eight times. -/
theorem crcShifts_eight_seed : crcShifts 8 0xFF#8 = 0xAC#8 := by decide +kernel

/-- Settles O13: one lookup is eight CRC_SHIFT steps, so each of the forms is a chain of lookups. -/
theorem crcMatchesThePrintedTable : Obligations.CrcMatchesThePrintedTable := by
  refine ⟨by simp [crcTable_eq], crcTable_nodup, crcTable_getElem?, ?_, fun b1 => ?_, fun c b => crcTable_getElem? _,
    fun b0 b1 t ht => ?_⟩
  · exact crcShifts_eight_seed ▸ crcTable_getElem? 0xFF#8
  · rw [crcTable_getElem?, crc8_eq, crcByte_eq, crcByte_eq, BitVec.xor_zero, crcShifts_eight_seed]
  · rw [crcTable_getElem?, Option.some.injEq] at ht
    rw [crcTable_getElem?, ← ht, crc8_eq, crcByte_eq, crcByte_eq]

/-! ### The polynomial remainder -/

/-- Shifting in 24 bits keeps, as bit 8, the bit that a byte's shift discards (R91). -/
theorem setWidth_shiftLeft_one (c : Byte) :
    c.setWidth 24 <<< 1 = (c <<< 1).setWidth 24 ^^^ if c.msb then 0x100#24 else 0#24 := by
  have hkept (i : Nat) : (if c.msb then 0x100#24 else 0#24).getLsbD i = (decide (8 = i) && c.msb) := by
    cases c.msb
    · simp
    · exact (BitVec.getLsbD_twoPow 8 i : (0x100#24).getLsbD i = _).trans (by simp)
  refine BitVec.eq_of_getLsbD_eq fun i hi => ?_
  rw [BitVec.getLsbD_xor, hkept, BitVec.msb_eq_getLsbD_last]
  obtain hlow | rfl | hhigh := lt_trichotomy i 8
  · simp [BitVec.getLsbD_eq_getElem (show i - 1 < 8 by omega), hlow, hlow.ne', hi]
  · simp
  · simp [BitVec.getLsbD_of_ge c (i - 1) (by omega), hhigh.ne, show ¬ i < 8 by omega]

/-- CRC_SHIFT is multiplication by x modulo 0x131 (R95): 0x131 clears the bit that is kept and adds the polynomial. -/
theorem setWidth_crcShift (c : Byte) :
    (crcShift c).setWidth 24 = c.setWidth 24 <<< 1 ^^^ if c.msb then 0x131#24 else 0#24 := by
  have hpoly : 0x131#24 = 0x100#24 ^^^ Config.crcPoly.setWidth 24 := rfl
  rw [setWidth_shiftLeft_one, crcShift]
  cases c.msb
  · simp
  · simp only [if_true, hpoly, BitVec.setWidth_xor]
    rw [BitVec.xor_assoc, ← BitVec.xor_assoc 0x100#24, BitVec.xor_self, BitVec.zero_xor]

/-- `k` steps of long division of c * x^(j + k), with lower terms `w` that they do not reach: CRC_SHIFT `k` times. -/
theorem polyRemainder_add (j k : Nat) (c : Byte) {w : BitVec 24} (hjk : j + k ≤ 16)
    (hw : ∀ i, 8 + j ≤ i → w.getLsbD i = false) :
    polyRemainder (j + k) (c.setWidth 24 <<< (j + k) ^^^ w) =
      polyRemainder j ((crcShifts k c).setWidth 24 <<< j ^^^ w) := by
  induction k generalizing c with
  | zero => rfl
  | succ k ih =>
    have htop : (c.setWidth 24 <<< (j + (k + 1)) ^^^ w).getLsbD (8 + (j + k)) = c.msb := by
      have hindex : 8 + (j + k) - (j + (k + 1)) = 8 - 1 := by omega
      rw [BitVec.getLsbD_xor, hw _ (by omega), Bool.xor_false, BitVec.getLsbD_shiftLeft, BitVec.getLsbD_setWidth, hindex,
        BitVec.msb_eq_getLsbD_last]
      simp [show 8 + (j + k) < 24 by omega, show ¬ 8 + (j + k) < j + (k + 1) by omega]
    calc
      _ = polyRemainder (j + k) ((crcShift c).setWidth 24 <<< (j + k) ^^^ w) := by
        rw [← Nat.add_assoc, polyRemainder, Nat.add_assoc, htop, setWidth_crcShift, BitVec.shiftLeft_xor_distrib,
          ← BitVec.shiftLeft_add, Nat.add_comm 1, Nat.add_assoc]
        cases c.msb
        · simp
        · simp only [if_true]
          ac_rfl
      _ = _ := ih _ (by omega)

/-- Two bytes followed by a zero byte, as the polynomial (a * x^8 + b) * x^8 (R95). -/
theorem append_zero_eq_shiftLeft_xor (a b : Byte) :
    a ++ b ++ 0x00#8 = a.setWidth 24 <<< 16 ^^^ b.setWidth 24 <<< 8 := by
  refine BitVec.eq_of_getLsbD_eq fun i hi => ?_
  simp only [BitVec.getLsbD_append, BitVec.getLsbD_xor, BitVec.getLsbD_shiftLeft, BitVec.getLsbD_setWidth]
  by_cases hlow : i < 8
  · simp [hlow, show i < 16 by omega]
  · by_cases hmid : i < 16
    · simp [hlow, hmid, show i - 8 < 8 by omega, show i - 8 < 24 by omega, hi]
    · have hb : b.getLsbD (i - 8) = false := BitVec.getLsbD_of_ge b _ (by omega)
      simp [hlow, hmid, hb, show ¬ i - 8 < 8 by omega, show i - 16 < 24 by omega, hi, Nat.sub_sub]

/-- Settles O12: the first eight steps take in byte 0, the last eight byte 1. -/
theorem crc8IsThePolynomialRemainder : Obligations.Crc8IsThePolynomialRemainder := by
  intro b0 b1
  have hlow (i : Nat) (hi : 8 + 8 ≤ i) : (b1.setWidth 24 <<< 8).getLsbD i = false := by
    simp [BitVec.getLsbD_of_ge b1 (i - 8) (by omega)]
  calc
    (crc8 b0 b1).setWidth 24 = (crcByte (crcByte 0xFF#8 b0) b1).setWidth 24 <<< 0 ^^^ 0#24 := by simp [crc8_eq]
    _ = polyRemainder (0 + 8) ((crcByte 0xFF#8 b0 ^^^ b1).setWidth 24 <<< (0 + 8) ^^^ 0#24) :=
      (polyRemainder_add 0 8 _ (by decide) (by simp)).symm
    _ = polyRemainder 8 ((crcByte 0xFF#8 b0).setWidth 24 <<< 8 ^^^ b1.setWidth 24 <<< 8) := by
      simp [BitVec.setWidth_xor, BitVec.shiftLeft_xor_distrib]
    _ = polyRemainder (8 + 8) ((0xFF#8 ^^^ b0).setWidth 24 <<< (8 + 8) ^^^ b1.setWidth 24 <<< 8) :=
      (polyRemainder_add 8 8 _ (by decide) hlow).symm
    _ = polyRemainder 16 ((0xFF#8 ^^^ b0) ++ b1 ++ 0x00#8) := by rw [append_zero_eq_shiftLeft_xor]

/-! ### The flips a wire unit detects -/

/-- What flipping the bits of a mask changes in the comparison of CHECK: zero where the flips go unnoticed (R101, R108). -/
def syndrome (m : BitVec 24) : Byte := crcLinear (unitOfBits m).b0 (unitOfBits m).b1 ^^^ (unitOfBits m).b2

/-- A valid unit stays valid exactly under the masks of syndrome zero. -/
theorem unitValid_flipUnit {u : WireUnit} (h : UnitValid u) (m : BitVec 24) :
    UnitValid (flipUnit u (unitOfBits m)) ↔ syndrome m = 0#8 := by
  unfold UnitValid at *
  simp only [flipUnit, crc8_xor, h, BitVec.xor_right_inj, syndrome, BitVec.xor_eq_zero_iff]

theorem syndrome_xor (a b : BitVec 24) : syndrome (a ^^^ b) = syndrome a ^^^ syndrome b := by
  simp only [syndrome, unitOfBits, BitVec.extractLsb'_xor, crcLinear_xor]
  ac_rfl

/-- The mask of bit `k` alone. -/
def bitMask (k : Fin 24) : BitVec 24 := 1#24 <<< k.val

theorem getElem_bitMask (k : Fin 24) {i : Nat} (hi : i < 24) : (bitMask k)[i] = decide (i = k.val) :=
  BitVec.getElem_twoPow hi

theorem bitMask_or_bitMask {j k : Fin 24} (h : j ≠ k) : bitMask j ||| bitMask k = bitMask j ^^^ bitMask k := by
  ext i hi
  simp only [BitVec.getElem_or, BitVec.getElem_xor, getElem_bitMask]
  grind

/-- Up to three bits, which may coincide, are two different bits, or the exclusive-or of three: a single bit is three times itself. -/
theorem or_bitMask_cases (p q r : Fin 24) :
    (∃ j k, j ≠ k ∧ bitMask p ||| bitMask q ||| bitMask r = bitMask j ^^^ bitMask k) ∨
    (∃ j k l, bitMask p ||| bitMask q ||| bitMask r = bitMask j ^^^ bitMask k ^^^ bitMask l) := by
  by_cases hpq : p = q
  · subst hpq
    rw [BitVec.or_self]
    by_cases hpr : p = r
    · exact .inr ⟨p, p, p, by simp [← hpr]⟩
    · exact .inl ⟨p, r, hpr, bitMask_or_bitMask hpr⟩
  · rw [bitMask_or_bitMask hpq]
    by_cases hr : r = p ∨ r = q
    on_goal 1 => refine .inl ⟨p, q, hpq, ?_⟩
    on_goal 2 => refine .inr ⟨p, q, r, ?_⟩
    all_goals
      ext i hi
      simp only [BitVec.getElem_or, BitVec.getElem_xor, getElem_bitMask]
      grind

/-- The syndrome of bit `k` is x^k modulo 0x131 (R95). -/
theorem syndrome_bitMask : ∀ k : Fin 24, syndrome (bitMask k) = crcShifts k.val 1#8 := by
  decide +kernel

/-- The powers of x up to 23 differ modulo 0x131. -/
theorem crcShifts_one_injective : Function.Injective fun k : Fin 24 => crcShifts k.val 1#8 := by
  decide +kernel

/-- Whether a byte has an odd number of ones. -/
def oddOnes (c : Byte) : Bool := (List.range 8).foldr (fun k odd => c.getLsbD k ^^ odd) false

theorem oddOnes_xor (a b : Byte) : oddOnes (a ^^^ b) = (oddOnes a ^^ oddOnes b) := by
  unfold oddOnes
  induction List.range 8 with
  | nil => rfl
  | cons k ks ih =>
    rw [List.foldr_cons, ih, BitVec.getLsbD_xor]
    simp only [List.foldr_cons, Bool.xor_assoc, Bool.xor_left_comm]

/-- 0x131 has an even number of terms, so CRC_SHIFT keeps the parity. -/
theorem oddOnes_crcShift (c : Byte) : oddOnes (crcShift c) = oddOnes c := by
  unfold crcShift
  cases hm : c.msb <;> simp_all [oddOnes, List.range, List.range.loop, BitVec.msb_eq_getLsbD_last, Config.crcPoly]

theorem oddOnes_crcShifts (n : Nat) (c : Byte) : oddOnes (crcShifts n c) = oddOnes c := by
  induction n generalizing c with
  | zero => rfl
  | succ n ih => rw [crcShifts, ih, oddOnes_crcShift]

theorem oddOnes_syndrome_bitMask (k : Fin 24) : oddOnes (syndrome (bitMask k)) = true := by
  rw [syndrome_bitMask, oddOnes_crcShifts]
  rfl

/-- Two different flips have different syndromes, and an odd number of flips has a syndrome of odd parity. -/
theorem syndrome_or_bitMask_ne_zero (p q r : Fin 24) : syndrome (bitMask p ||| bitMask q ||| bitMask r) ≠ 0#8 := by
  intro hzero
  obtain ⟨j, k, hne, hmask⟩ | ⟨j, k, l, hmask⟩ := or_bitMask_cases p q r
  · rw [hmask, syndrome_xor, BitVec.xor_eq_zero_iff, syndrome_bitMask, syndrome_bitMask] at hzero
    exact hne (crcShifts_one_injective hzero)
  · rw [hmask, syndrome_xor, syndrome_xor] at hzero
    have hodd := congrArg oddOnes hzero
    simp only [oddOnes_xor, oddOnes_syndrome_bitMask] at hodd
    exact absurd hodd (by decide)

/-- Settles O11: up to three flips never have syndrome zero; `00 00 81` with the mask `80 00 23` (R97) goes unnoticed. -/
theorem crcDetectsUpToThreeFlippedBits : Obligations.CrcDetectsUpToThreeFlippedBits := by
  refine ⟨fun u p q r hu hflipped => ?_, ⟨0x00#8, 0x00#8, 0x81#8⟩, ⟨0x80#8, 0x00#8, 0x23#8⟩, ?_, ?_, by decide +kernel⟩
  · exact syndrome_or_bitMask_ne_zero p q r ((unitValid_flipUnit hu _).1 hflipped)
  all_goals
    unfold UnitValid
    decide +kernel

end Sys2Proof.Machine
end

section
/-! PROOF. The word codec: PACK_WORD and UNPACK_WORD undo each other, UNPACK_BYTES is UNPACK_WORD before its bytes are put together, and
the three as requests at the function port. -/

namespace Sys2Proof.Machine

/-! ### PACK_WORD and UNPACK_WORD undo each other -/

theorem packWord_append (hi lo : Byte) : packWord (hi ++ lo) = ⟨hi, lo, crc8 hi lo⟩ := by
  simp [packWord]

/-- A word has one unit: the valid one that holds its two bytes (R102). -/
theorem packWord_eq_iff {v : U16} {u : WireUnit} : packWord v = u ↔ UnitValid u ∧ v = u.b0 ++ u.b1 := by
  constructor
  · rintro rfl
    exact ⟨packWord_valid v, (hiByte_append_loByte v).symm⟩
  · rintro ⟨hu, rfl⟩
    rw [packWord_append, hu]

/-- UNPACK_WORD answers a word exactly on that word's unit (R103, R105). -/
theorem unpackWord_eq_ok_iff {u : WireUnit} {v : U16} : unpackWord u = .ok v ↔ packWord v = u := by
  rw [packWord_eq_iff]
  refine ⟨unpackWord_eq_ok, ?_⟩
  rintro ⟨hu, rfl⟩
  exact unpackWord_ok hu

theorem unpackWord_packWord (v : U16) : unpackWord (packWord v) = .ok v := unpackWord_eq_ok_iff.2 rfl

theorem packWord_injective : Function.Injective packWord := fun v w h => by
  have hok : unpackWord (packWord v) = .ok w := h ▸ unpackWord_packWord w
  exact Except.ok.inj ((unpackWord_packWord v).symm.trans hok)

theorem checkUnit_eq_ok_iff {u : WireUnit} : checkUnit u = .ok () ↔ UnitValid u := by
  refine ⟨fun h => ?_, checkUnit_ok⟩
  by_contra hu
  cases (checkUnit_error hu).symm.trans h

/-- Settles O14: UNPACK_WORD answers a word exactly on that word's unit, and every valid unit is the unit of its own two bytes. -/
theorem wordCodecRoundTrip : Obligations.WordCodecRoundTrip := by
  refine ⟨unpackWord_packWord, fun _ _ => unpackWord_eq_ok_iff.1, packWord_injective, fun u => ?_⟩
  simp only [checkUnit_eq_ok_iff, packWord_eq_iff, exists_and_left, exists_eq, and_true]

/-! ### UNPACK_WORD and UNPACK_BYTES -/

/-- UNPACK_WORD puts together the bytes UNPACK_BYTES answers, and fails as it fails (R107). -/
theorem unpackWord_eq_mapOk (u : WireUnit) : unpackWord u = mapOk (fun p => p.1 ++ p.2) (unpackBytes u) := by
  by_cases hu : UnitValid u
  · rw [unpackWord_ok hu, unpackBytes_ok hu, mapOk]
  · rw [unpackWord_error hu, unpackBytes_error hu, mapOk]

/-- Settles O15: what UNPACK_WORD answers is a function of what UNPACK_BYTES answers. -/
theorem unpackWordAndUnpackBytesAgree : Obligations.UnpackWordAndUnpackBytesAgree := by
  intro u
  rw [unpackWord_eq_mapOk]
  cases unpackBytes u with
  | error e => simp [mapOk]
  | ok p =>
    refine ⟨by simp [mapOk], by simp [mapOk, Prod.ext_iff, eq_comm], ?_⟩
    rintro _ _ ⟨⟩ ⟨⟩
    rfl

/-! ### The three at the function port -/

/-- Settles O19: the response carries PACK_WORD's unit, whose three bytes are known. -/
theorem packWordRequestAnswersTheUnit : Obligations.PackWordRequestAnswersTheUnit := by
  refine ⟨decodeFn_packWord, fun hi lo s => ?_⟩
  refine fnCompletes_of_exec (result := .ok (fnOutUnit ⟨hi, lo, crc8 hi lo⟩)) ?_ ⟨rfl, rfl⟩
  rw [← packWord_append]
  rfl

/-- A primitive that may fail responds with what its codec function answers: the value placed in fn_out, or the error (R34). -/
theorem fnCompletes_of_codec {α : Type} {place : α → U32} {answer result : Except CoreError α} {i : Instr} {s : State}
    {resp : FnResponse → Prop} (hexec : exec i s = .next (s.fnRespond (mapOk place answer))) (hanswer : answer = result)
    (hresp : resp (fnResponse s.draws (mapOk place result))) : FnCompletes i s resp :=
  fnCompletes_of_exec hexec (hanswer ▸ hresp)

/-- Settles O20: CHECK passes the unit or raises the CrcMismatch, and the response carries which. -/
theorem unpackWordRequestAnswersWordOrMismatch : Obligations.UnpackWordRequestAnswersWordOrMismatch :=
  ⟨decodeFn_unpackWord, fun _ _ =>
    ⟨fun hu => fnCompletes_of_codec rfl (unpackWord_ok hu) ⟨rfl, rfl⟩,
      fun hu => fnCompletes_of_codec rfl (unpackWord_error hu) ⟨rfl, rfl, rfl⟩⟩⟩

/-- Where the two bytes stand in fn_out (R34). -/
theorem fnOutBytes_fields (b0 b1 : Byte) :
    (fnOutBytes (b0, b1)).extractLsb' 8 8 = b0 ∧ (fnOutBytes (b0, b1)).extractLsb' 0 8 = b1 ∧
      (fnOutBytes (b0, b1)).extractLsb' 16 16 = 0#16 := by
  unfold fnOutBytes
  refine ⟨?_, ?_, ?_⟩
  · rw [BitVec.extractLsb'_setWidth_of_le (by decide)]
    exact BitVec.extractLsb'_append_eq_left
  · rw [BitVec.extractLsb'_setWidth_of_le (by decide)]
    exact BitVec.extractLsb'_append_eq_right
  · ext i hi
    simp

/-- Settles O21: as O20, with the two bytes read back from their places in fn_out. -/
theorem unpackBytesRequestAnswersBytesOrMismatch : Obligations.UnpackBytesRequestAnswersBytesOrMismatch :=
  ⟨decodeFn_unpackBytes, fun u _ =>
    ⟨fun hu => fnCompletes_of_codec rfl (unpackBytes_ok hu) ⟨rfl, fnOutBytes_fields u.b0 u.b1⟩,
      fun hu => fnCompletes_of_codec rfl (unpackBytes_error hu) ⟨rfl, rfl, rfl⟩⟩⟩

end Sys2Proof.Machine
end

section
/-! PROOF. The float codec: PACK_FLOAT and UNPACK_FLOAT undo each other, UNPACK_FLOAT as a request at the function port, and the patterns
READING presents. -/

namespace Sys2Proof.Machine

/-! ### PACK_FLOAT and UNPACK_FLOAT undo each other -/

/-- The two words PACK_FLOAT takes from a pattern, put together, are the pattern (R115). -/
theorem halfWords_eq_iff {f : U32} {a b : U16} : f.extractLsb' 16 16 = a ∧ f.extractLsb' 0 16 = b ↔ f = a ++ b := by
  constructor
  · rintro ⟨rfl, rfl⟩
    exact (BitVec.extractLsb'_append_extractLsb' (w := 16) (len := 16)).symm
  · rintro rfl
    exact ⟨BitVec.extractLsb'_append_eq_left, BitVec.extractLsb'_append_eq_right⟩

/-- A pattern has one pair of units: the valid ones that hold its four bytes, the high word's first (R115). -/
theorem packFloat_eq_iff {f : U32} {h l : WireUnit} :
    packFloat f = (h, l) ↔ UnitValid h ∧ UnitValid l ∧ f = h.b0 ++ h.b1 ++ l.b0 ++ l.b1 := by
  have hassoc : h.b0 ++ h.b1 ++ l.b0 ++ l.b1 = h.b0 ++ h.b1 ++ (l.b0 ++ l.b1) := BitVec.append_assoc
  rw [packFloat, Prod.mk.injEq, packWord_eq_iff, packWord_eq_iff, hassoc, ← halfWords_eq_iff,
    and_and_and_comm, and_assoc]

/-- UNPACK_FLOAT answers a pattern exactly on that pattern's units (R116). -/
theorem unpackFloat_eq_ok_iff {h l : WireUnit} {f : U32} : unpackFloat h l = .ok f ↔ packFloat f = (h, l) := by
  rw [packFloat_eq_iff]
  refine ⟨unpackFloat_eq_ok, ?_⟩
  rintro ⟨hh, hl, rfl⟩
  exact unpackFloat_ok hh hl

/-- Settles O16: both directions are the equivalence above, which takes no pattern apart from the others (R113). -/
theorem floatCodecRoundTrip : Obligations.FloatCodecRoundTrip :=
  ⟨fun _ => unpackFloat_eq_ok_iff.2 rfl, fun _ _ _ => unpackFloat_eq_ok_iff.1⟩

/-- Settles O17: the three outcomes of UNPACK_FLOAT, by which unit CHECK stops at. -/
theorem unpackFloatReportsTheFirstFailure : Obligations.UnpackFloatReportsTheFirstFailure :=
  fun _ l => ⟨unpackFloat_highBad l, unpackFloat_lowBad, unpackFloat_ok⟩

/-! ### UNPACK_FLOAT at the function port -/

/-- The response carries what UNPACK_FLOAT answers, a pattern as it is in fn_out (R34, R111). -/
theorem fnCompletes_unpackFloat {h l : WireUnit} {result : Except CoreError U32} {s : State} {resp : FnResponse → Prop}
    (hanswer : unpackFloat h l = result) (hresp : resp (fnResponse s.draws result)) :
    FnCompletes (.unpackFloat h l) s resp :=
  fnCompletes_of_exec (hanswer ▸ rfl) hresp

/-- Settles O22: each of the three outcomes of UNPACK_FLOAT, as the response carries it. -/
theorem unpackFloatRequestAnswersPatternOrMismatch : Obligations.UnpackFloatRequestAnswersPatternOrMismatch :=
  ⟨decodeFn_unpackFloat, fun _ l _ =>
    ⟨fun hh hl => fnCompletes_unpackFloat (unpackFloat_ok hh hl) ⟨rfl, rfl⟩,
      fun hh => fnCompletes_unpackFloat (unpackFloat_highBad l hh) ⟨rfl, rfl, rfl⟩,
      fun hh hl => fnCompletes_unpackFloat (unpackFloat_lowBad hh hl) ⟨rfl, rfl, rfl⟩⟩⟩

/-! ### The patterns READING presents -/

/-- A transport that answers READ_MEAS with the packed units of three patterns answers it these patterns (R128). -/
theorem measAnswers_of_packed {s : State} {c x h : U32} (hw : trWriteAnswer s = .ok)
    (hr : trReadAnswer 18 s = .bytes (sixUnits (packFloat c).1 (packFloat c).2 (packFloat x).1 (packFloat x).2
      (packFloat h).1 (packFloat h).2)) : ∃ evs, MeasAnswers s c x h evs := by
  obtain ⟨v0, v1, hc⟩ := packFloat_eq_iff.1 (Eq.refl (packFloat c))
  obtain ⟨v2, v3, hx⟩ := packFloat_eq_iff.1 (Eq.refl (packFloat x))
  obtain ⟨v4, v5, hh⟩ := packFloat_eq_iff.1 (Eq.refl (packFloat h))
  refine ⟨_, _, _, _, _, _, _, hw, hr, ?_, hc, hx, hh, rfl⟩
  simp only [List.mem_cons, List.not_mem_nil, or_false, forall_eq_or_imp, forall_eq]
  exact ⟨v0, v1, v2, v3, v4, v5⟩

/-- On the sequencer's turn in READING, an answered READ_MEAS is followed by READING's success path (R147). -/
theorem step_reading_of_answers {s : State} {c x h : U32} {evs : List Event} (turn : SequencerTurn s)
    (hs : s.state = 1#3) (hm : MeasAnswers s c x h evs) :
    step s = .next (readingAfter (.ok (c, x, h)) (s.transact readMeasFrame 18)) := by
  obtain ⟨answered, hresult, -⟩ := measResult_of_answers hm
  rw [step_sequencer turn, hs, ← hresult]
  exact runTransaction_done answered

/-- Settles O56: packed units are valid whatever the pattern, so READING succeeds, and it presents what it stores. -/
theorem anyPatternIsPresentedBitForBit : Obligations.AnyPatternIsPresentedBitForBit := by
  intro s c x h turn hs hw hr
  obtain ⟨evs, hm⟩ := measAnswers_of_packed hw hr
  exact ⟨_, step_reading_of_answers turn hs hm, rfl, rfl, rfl, by simp [readingAfter]⟩

end Sys2Proof.Machine
end

section
/-! PROOF. The six commands run by themselves: an answered command leaves the machine as its transactions do and keeps its result, so what
is left to say of each is its frame and what its result is. And the slot they are presented in, which no step fills. -/

namespace Sys2Proof.Machine

/-! ### What an answered command completes with -/

/-- A command that is not left waiting completes with its result after its own transactions; no register and no host port moves (R120). -/
theorem commandCompletes_of_answered {i : Instr} {s : State} {frame : List Byte} {n : Nat} {r result : CmdResult}
    {evs : List Event} (hexec : exec i s = runTransaction frame n (State.retireCommand r) s) (answered : ¬ Unanswered n s)
    (hresult : r = result) (hevents : xferEvents frame n s = evs) : CommandCompletes i s result evs := by
  subst hresult hevents
  exact ⟨_, hexec.trans (runTransaction_done answered), rfl, rfl, by constructor <;> rfl, by constructor <;> rfl, rfl⟩

/-- A command that returns a word completes with the word it is answered, or with the error it fails with (R121, R123, R124, R126). -/
theorem wordCommand_completes {i : Instr} {s : State} {frame : List Byte}
    (hexec : exec i s = runTransaction frame 3 (State.retireCommand (resultOf .word (wordResult s))) s) (evs : List Event) :
    (∀ v, WordAnswers frame s v evs → CommandCompletes i s (.word v) evs) ∧
    (∀ e, WordFails frame s e evs → CommandCompletes i s (.err e) evs) := by
  constructor
  · intro v h
    obtain ⟨answered, hresult, hevents, -⟩ := wordResult_of_answers h
    exact commandCompletes_of_answered hexec answered (congrArg (resultOf .word) hresult) hevents
  · intro e h
    obtain ⟨answered, hresult, hevents, -⟩ := wordResult_of_fails h
    exact commandCompletes_of_answered hexec answered (congrArg (resultOf .word) hresult) hevents

/-- A fire-and-forget command completes with nothing if its write is accepted, with IoError if not (R121, R125, R127). -/
theorem sendCommand_completes {i : Instr} {s : State} {frame : List Byte}
    (hexec : exec i s = runTransaction frame 0 (State.retireCommand (resultOf (fun _ => .done) (sendResult s))) s)
    (evs : List Event) :
    (SendSucceeds frame s evs → CommandCompletes i s .done evs) ∧
    (SendFails frame s evs → CommandCompletes i s (.err .ioError) evs) := by
  constructor
  · intro h
    obtain ⟨answered, hresult, hevents, -⟩ := sendResult_of_succeeds h
    exact commandCompletes_of_answered hexec answered (congrArg (resultOf fun _ => .done) hresult) hevents
  · intro h
    obtain ⟨answered, hresult, hevents, -⟩ := sendResult_of_fails h
    exact commandCompletes_of_answered hexec answered (congrArg (resultOf fun _ => .done) hresult) hevents

/-- A CMD5 frame whose argument is the word of two given bytes carries these bytes and their CRC8 (R72, R74). -/
theorem cmd5_append (b1 b0 hi lo : Byte) : cmd5 b1 b0 (hi ++ lo) = [b1, b0, hi, lo, crc8 hi lo] := by
  rw [cmd5, unitBytes_packWord_append]
  rfl

/-- Settles O29: six valid units decode to the three patterns, and the decode stops at the first invalid one. -/
theorem readMeasReturnsThreePatterns : Obligations.ReadMeasReturnsThreePatterns := by
  intro s evs
  constructor
  · intro c t h hm
    obtain ⟨answered, hresult, hevents, -⟩ := measResult_of_answers hm
    exact commandCompletes_of_answered rfl answered (by rw [hresult]; rfl) hevents
  · intro e hm
    obtain ⟨answered, hresult, hevents, -⟩ := measResult_of_fails hm
    exact commandCompletes_of_answered rfl answered (by rw [hresult]; rfl) hevents

/-- Settles O24: GET_READY is the word command of the frame `02 02`. -/
theorem getReadyReturnsTheWord : Obligations.GetReadyReturnsTheWord := fun _ => wordCommand_completes rfl

/-- Settles O25: GET_INTERVAL is the word command of the frame `46 00`. -/
theorem getIntervalReturnsTheWord : Obligations.GetIntervalReturnsTheWord := fun _ => wordCommand_completes rfl

/-- Settles O27: GET_TEMP_OFFSET is the word command of the frame `54 03`. -/
theorem getTempOffsetReturnsTheWord : Obligations.GetTempOffsetReturnsTheWord := fun _ => wordCommand_completes rfl

/-- Settles O26: the frame sent is packed from the argument, whatever CRC byte the operation carries. -/
theorem setIntervalSendsTheFrame : Obligations.SetIntervalSendsTheFrame := by
  intro s hi lo c evs
  rw [← cmd5_append]
  exact sendCommand_completes rfl evs

/-- Settles O28: as O26, with the command bytes `00 10`. -/
theorem triggerContSendsTheFrame : Obligations.TriggerContSendsTheFrame := by
  intro s hi lo c evs
  rw [← cmd5_append]
  exact sendCommand_completes rfl evs

/-! ### The command slot -/

@[simp] theorem initIntervalAfter_cmdSlot (r : Except CoreError U16) (s : State) :
    (initIntervalAfter r s).cmdSlot = s.cmdSlot := by
  cases r <;> rfl

@[simp] theorem initSetAfter_cmdSlot (r : Except CoreError Unit) (s : State) : (initSetAfter r s).cmdSlot = s.cmdSlot := by
  cases r <;> rfl

@[simp] theorem initOffsetAfter_cmdSlot (r : Except CoreError U16) (s : State) :
    (initOffsetAfter r s).cmdSlot = s.cmdSlot := by
  cases r <;> rfl

@[simp] theorem checkingReadyAfter_cmdSlot (r : Except CoreError U16) (s : State) :
    (checkingReadyAfter r s).cmdSlot = s.cmdSlot := by
  cases r with
  | error e => rfl
  | ok v =>
    simp only [checkingReadyAfter, State.setReadyFlags]
    split
    · rfl
    · split <;> simp

@[simp] theorem stalledAfter_cmdSlot (r : Except CoreError Unit) (s : State) : (stalledAfter r s).cmdSlot = s.cmdSlot := by
  cases r <;> rfl

@[simp] theorem readingAfter_cmdSlot (r : Except CoreError (U32 × U32 × U32)) (s : State) :
    (readingAfter r s).cmdSlot = s.cmdSlot := by
  cases r <;> rfl

/-- No state-step fills the slot: it is left as it was, and a blocked one empties it. -/
theorem cmdSlot_of_stateStep {s t : State} (hslot : s.cmdSlot = none) (h : StateStep s t) : t.cmdSlot = none := by
  cases h with
  | initInterval | initSet | initOffset | checkingReady | reading | stalled =>
    subst_vars
    simp [hslot]
  | waiting | halted =>
    subst_vars
    exact hslot
  | hung =>
    subst_vars
    rfl

/-- Settles O48: a command's end, done or blocked, and a reset empty the slot; the port and the sequencer move only while it is empty. -/
theorem noStepFillsTheCommandSlot : Obligations.NoStepFillsTheCommandSlot := by
  intro s t hs
  cases stepKind_of_step hs with
  | reset _ _ _ next => rw [next, resetRegisters_cmdSlot]
  | port _ _ slot _ r next => rw [next, fnRespond_cmdSlot, slot]
  | command _ _ _ frame n _ next =>
    rcases next with ⟨-, rfl⟩ | ⟨-, r, rfl⟩
    · exact hang_cmdSlot s frame n
    · exact retireCommand_cmdSlot _ r
  | sequencer turn h => exact cmdSlot_of_stateStep turn.cmdSlot h

end Sys2Proof.Machine
end

section
/-! PROOF. Where a step takes the machine: the step after placing a word, the state-steps that run no command, and the moves of STATE and
STALL, said once for what each state-step makes of its command's result. -/

namespace Sys2Proof

open Machine

/-! ### Fetching -/

/-- Settles O6: what is fetched is the slot, else the oldest request, else STATE. -/
theorem stepRunsTheDecodedOperation : Obligations.StepRunsTheDecodedOperation := by
  intro s i hr hf
  rw [step_eq hr hf]
  refine ⟨fun bytes hc hd => ?_, fun q rest hc hq hd => ?_, fun hc hq hd => ?_⟩
  · rw [show fetchContainer s = .frame bytes by simp [fetchContainer, hc], hd]
  · rw [fetchContainer_of_request hc hq, hd]
  · rw [show fetchContainer s = .state s.state by simp [fetchContainer, hc, hq], hd]

/-- A placed container is what is fetched next, with no reset waiting and no transaction unanswered (log entry 16). -/
theorem fetchContainer_placeContainer (c : Container) (s : State) :
    (placeContainer c s).rst = false ∧ (placeContainer c s).inFlight = none ∧
      fetchContainer (placeContainer c s) = c := by
  cases c <;> exact ⟨rfl, rfl, rfl⟩

/-- A table word that decodes is the word of a container that decodes. -/
theorem decode_of_decodeTableWord {nbits w : Nat} {i : Instr} (h : decodeTableWord nbits w = some i) :
    ∃ c, tableContainer nbits w = some c ∧ decode c = .ok i := by
  unfold decodeTableWord at h
  split at h
  · cases h
  · split at h <;> cases h
    exact ⟨_, ‹_›, ‹_›⟩

/-- Settles O7: the word's container is placed, fetched and decoded. -/
theorem placedTableWordRunsNext : Obligations.PlacedTableWordRunsNext := by
  intro s nbits w i h
  obtain ⟨c, hc, hd⟩ := decode_of_decodeTableWord h
  obtain ⟨rst, flight, fetched⟩ := fetchContainer_placeContainer c s
  rw [State.withFetchWord, placeWord, hc]
  exact (step_eq rst flight).trans (by rw [fetched, hd])

end Sys2Proof

namespace Sys2Proof.Machine

/-! ### The state-steps that run no command -/

/-- Settles O38: the comparison on 17 bits is that of the numbers. -/
theorem waitingComparesStallWithTheInterval : Obligations.WaitingComparesStallWithTheInterval := by
  intro s
  have hexec : exec .waiting s =
      .next { s with state := if s.stall ≤ s.cfgInterval.setWidth 17 then Code.checkingReady else Code.stalled } := rfl
  simp only [stall_le_interval] at hexec
  exact ⟨fun h => by rw [hexec, if_pos h], fun h => by rw [hexec, if_neg h.not_ge]⟩

/-- Settles O40: HALTED writes STATE with the value it is selected by. -/
theorem haltedDoesNothing : Obligations.HaltedDoesNothing := by
  refine fun s => ⟨rfl, fun turn h => ?_⟩
  rw [step_sequencer turn, h]
  show Host.Outcome.next { s with state := 7#3 } = _
  rw [← h]

/-! ### The steps that are not the sequencer's -/

/-- A step that is no reset and has a next state began with no transaction unanswered (R211). -/
theorem flight_of_step {s t : State} (hr : s.rst = false) (hs : step s = .next t) : s.inFlight = none := by
  by_contra hf
  rw [step_blocked hr hf] at hs
  cases hs

/-- Settles O47: a request is answered at the port only, and a command writes no register, done or blocked. -/
theorem onlyTheSequencerChangesRegisters : Obligations.OnlyTheSequencerChangesRegisters := by
  intro s t hr hbusy hs
  cases stepKind_of_step hs with
  | reset h => simp [hr] at h
  | port _ _ _ _ r next =>
    subst next
    constructor <;> rfl
  | command _ _ _ frame n _ next =>
    rcases next with ⟨hu, rfl⟩ | ⟨-, r, rfl⟩
    · exact (hang_leaves hu).1
    · constructor <;> rfl
  | sequencer turn => exact absurd hbusy (by simp [turn.cmdSlot, turn.fnQueue])

/-! ### The moves of STATE and STALL -/

/-- INIT_INTERVAL goes to INIT_SET only with an interval that differs from the configured one (R141). -/
theorem initIntervalAfter_moves (r : Except CoreError U16) (s : State) :
    (initIntervalAfter r s).stall = s.stall ∧
    ((initIntervalAfter r s).state = 6#3 ∨
      ((initIntervalAfter r s).state = 5#3 ∧ ∃ v, (initIntervalAfter r s).devInterval = some v ∧ v ≠ s.cfgInterval) ∨
      (initIntervalAfter r s).state = 7#3) := by
  cases r with
  | error e => exact ⟨rfl, .inr (.inr rfl)⟩
  | ok v =>
    by_cases h : v = s.cfgInterval
    · exact ⟨rfl, .inl (if_pos h)⟩
    · exact ⟨rfl, .inr (.inl ⟨if_neg h, v, rfl, h⟩)⟩

theorem initSetAfter_moves (r : Except CoreError Unit) (s : State) :
    (initSetAfter r s).stall = s.stall ∧ ((initSetAfter r s).state = 6#3 ∨ (initSetAfter r s).state = 7#3) := by
  cases r with
  | error e => exact ⟨rfl, .inr rfl⟩
  | ok v => exact ⟨rfl, .inl rfl⟩

theorem initOffsetAfter_moves (r : Except CoreError U16) (s : State) :
    (initOffsetAfter r s).stall = s.stall ∧ ((initOffsetAfter r s).state = 0#3 ∨ (initOffsetAfter r s).state = 7#3) := by
  cases r with
  | error e => exact ⟨rfl, .inr rfl⟩
  | ok v => exact ⟨rfl, .inl rfl⟩

/-- A checked word writes FLAGS only: FATAL is kept, ERR cleared, READY and ANOMALY are as the word says (R29, R144). -/
theorem checkedWord_eq (v : U16) (s : State) : (s.setReadyFlags v).setFlag flagErr false =
    { s with flags := (s.flags &&& 0b1000#4) ||| (if v = 1#16 then 0b0001#4 else 0#4) |||
      (if v ≠ 0#16 ∧ v ≠ 1#16 then 0b0010#4 else 0#4) } := by
  have masks : ∀ (f : BitVec 4) (ready anomaly : Bool), withFlag (withFlag (withFlag f 0 ready) 1 anomaly) 2 false =
      (f &&& 0b1000#4) ||| (if ready then 0b0001#4 else 0#4) ||| (if anomaly then 0b0010#4 else 0#4) := by decide
  have flags := masks s.flags (v == 1#16) (v != 0#16 && v != 1#16)
  simp only [beq_iff_eq, bne_iff_ne, Bool.and_eq_true] at flags
  rw [← flags]
  rfl

/-- CHECKING_READY on the word 1 (R144). -/
theorem checkingReadyAfter_one (s : State) :
    checkingReadyAfter (.ok 1#16) s = { s with flags := s.flags &&& 0b1000#4 ||| 0b0001#4, state := 1#3 } := by
  simp [checkingReadyAfter, checkedWord_eq]

/-- CHECKING_READY on the word 0 (R144). -/
theorem checkingReadyAfter_zero (s : State) :
    checkingReadyAfter (.ok 0#16) s = notReady { s with flags := s.flags &&& 0b1000#4 } := by
  simp [checkingReadyAfter, checkedWord_eq]

/-- CHECKING_READY on any other word (R144, R173). -/
theorem checkingReadyAfter_anomaly {v : U16} (h0 : v ≠ 0#16) (h1 : v ≠ 1#16) (s : State) : checkingReadyAfter (.ok v) s =
    notReady (({ s with flags := s.flags &&& 0b1000#4 ||| 0b0010#4 } : State).emit (.status (.protocolAnomaly v))) := by
  simp [checkingReadyAfter, checkedWord_eq, h0, h1]

/-- CHECKING_READY goes to READING on the word 1 only, and else advances STALL unless an error is taken (R144). -/
theorem checkingReadyAfter_moves (r : Except CoreError U16) (s : State) :
    (r = .ok 1#16 ∧ (checkingReadyAfter r s).state = 1#3 ∧ (checkingReadyAfter r s).stall = s.stall) ∨
    ((checkingReadyAfter r s).state = 2#3 ∧
      ((checkingReadyAfter r s).stall = s.stall + s.cfgPollElapsed.setWidth 17 ∨
        (∃ e, r = .error e) ∧ (checkingReadyAfter r s).stall = s.stall)) := by
  cases r with
  | error e => exact .inr ⟨rfl, .inr ⟨⟨e, rfl⟩, by simp [checkingReadyAfter]⟩⟩
  | ok v =>
    by_cases h1 : v = 1#16
    · subst h1
      exact .inl ⟨rfl, by rw [checkingReadyAfter_one], by rw [checkingReadyAfter_one]⟩
    by_cases h0 : v = 0#16
    · subst h0
      exact .inr ⟨rfl, .inl (by rw [checkingReadyAfter_zero]; rfl)⟩
    · rw [checkingReadyAfter_anomaly h0 h1]
      exact .inr ⟨rfl, .inl rfl⟩

theorem readingAfter_moves (r : Except CoreError (U32 × U32 × U32)) (s : State) :
    (readingAfter r s).state = 0#3 ∧ (readingAfter r s).stall = 0#17 ∨
    (readingAfter r s).state = 2#3 ∧ (readingAfter r s).stall = s.stall := by
  cases r with
  | error e => exact .inr ⟨rfl, rfl⟩
  | ok m => exact .inl ⟨rfl, rfl⟩

theorem stalledAfter_moves (r : Except CoreError Unit) (s : State) :
    (stalledAfter r s).state = 0#3 ∧ (stalledAfter r s).stall = 0#17 ∨
    (stalledAfter r s).state = 2#3 ∧ (stalledAfter r s).stall = s.stall := by
  cases r with
  | error e => exact .inr ⟨rfl, rfl⟩
  | ok v => exact .inl ⟨rfl, rfl⟩

/-- Settles O41: each state-step makes the moves of its own rows; a blocked one makes none. -/
theorem everyTransitionOfState : Obligations.EveryTransitionOfState := by
  intro s t turn hs
  cases stateStep_of_step turn hs with
  | initInterval h _ next =>
    subst next
    obtain ⟨stall, state⟩ := initIntervalAfter_moves (wordResult s) (s.transact getIntervalFrame 3)
    exact .inl ⟨h, stall, state.imp_right (Or.imp_left And.left)⟩
  | initSet h _ next =>
    have := initSetAfter_moves (sendResult s) (s.transact (setIntervalFrame s.cfgInterval) 0)
    exact .inr (.inl ⟨h, next ▸ this⟩)
  | initOffset h _ next =>
    have := initOffsetAfter_moves (wordResult s) (s.transact getTempOffsetFrame 3)
    exact .inr (.inr (.inl ⟨h, next ▸ this⟩))
  | checkingReady h _ next =>
    subst next
    rcases checkingReadyAfter_moves (wordResult s) (s.transact getReadyFrame 3) with ⟨-, moves⟩ | ⟨state, stall⟩
    · exact .inr (.inr (.inr (.inl ⟨h, moves⟩)))
    · exact .inr (.inr (.inr (.inr (.inl ⟨h, state, stall.imp_right And.right⟩))))
  | reading h _ next =>
    have := readingAfter_moves (measResult s) (s.transact readMeasFrame 18)
    exact .inr (.inr (.inr (.inr (.inr (.inr (.inr (.inl ⟨h, next ▸ this⟩)))))))
  | waiting h next =>
    subst next
    simp only [h]
    split <;> simp
  | stalled h _ next =>
    have := stalledAfter_moves (sendResult s) (s.transact (triggerContFrame s.cfgPressure) 0)
    exact .inr (.inr (.inr (.inr (.inr (.inr (.inl ⟨h, next ▸ this⟩))))))
  | halted h next => simp [h, next]
  | hung frame n _ _ next => simp [next]

/-- The rows of the transition table for STATE alone, and the step that keeps it (R151). -/
def Successor (a b : BitVec 3) : Prop :=
  (a = 4#3 ∧ (b = 6#3 ∨ b = 5#3 ∨ b = 7#3)) ∨ (a = 5#3 ∧ (b = 6#3 ∨ b = 7#3)) ∨ (a = 6#3 ∧ (b = 0#3 ∨ b = 7#3)) ∨
  (a = 0#3 ∧ (b = 1#3 ∨ b = 2#3)) ∨ (a = 2#3 ∧ (b = 0#3 ∨ b = 3#3)) ∨ (a = 3#3 ∧ (b = 0#3 ∨ b = 2#3)) ∨
  (a = 1#3 ∧ (b = 0#3 ∨ b = 2#3)) ∨ b = a

/-- With no reset waiting STATE moves along the table only (R140, R151). -/
theorem successor_of_step {s t : State} (hr : s.rst = false) (hs : step s = .next t) : Successor s.state t.state := by
  by_cases hbusy : s.cmdSlot ≠ none ∨ s.fnQueue ≠ []
  · simp [Successor, (onlyTheSequencerChangesRegisters s t hr hbusy hs).state]
  · obtain ⟨hc, hq⟩ := not_or.1 hbusy
    have turn : SequencerTurn s := ⟨hr, flight_of_step hr hs, not_not.1 hc, not_not.1 hq⟩
    rcases everyTransitionOfState s t turn hs with ⟨h, -, ht⟩ | ⟨h, -, ht⟩ | ⟨h, -, ht⟩ | ⟨h, ht, -⟩ | ⟨h, ht, -⟩ |
      ⟨h, -, ht⟩ | ⟨h, ⟨ht, -⟩ | ⟨ht, -⟩⟩ | ⟨h, ⟨ht, -⟩ | ⟨ht, -⟩⟩ | ⟨h, ht, -⟩ | ⟨h, ht, -⟩
    all_goals simp [Successor, h, ht]

/-- Settles O42: the clauses hold of every row of the table. -/
theorem phasesAreLeftAsTheRulesSay : Obligations.PhasesAreLeftAsTheRulesSay := by
  have rows : ∀ a b : BitVec 3, Successor a b →
      (a.toNat < 4 → b.toNat < 4) ∧ (a = 7#3 → b = 7#3) ∧
      (b = 7#3 → a ≠ 7#3 → a = 4#3 ∨ a = 5#3 ∨ a = 6#3) ∧
      ((b = 4#3 ∨ b = 5#3 ∨ b = 6#3) → a = 4#3 ∨ a = 5#3 ∨ a = 6#3) := by
    unfold Successor
    decide
  exact fun s t hr hs => rows _ _ (successor_of_step hr hs)

end Sys2Proof.Machine
end

section
/-! PROOF. The state-steps, each with the answer its command gets: an answered command is followed by what the state-step's rule makes of
its result, so what is left to say of each is its frame and what its success and its error write. -/

namespace Sys2Proof.Machine

/-! ### What a state-step completes with -/

/-- From `s` to `t` no host port moved, and neither did what the core is blocked in, the model's own slot and its result. -/
structure SameSurroundings (s t : State) : Prop where
  cfgPort : t.cfgPort = s.cfgPort
  rst : t.rst = s.rst
  fnQueue : t.fnQueue = s.fnQueue
  fnResp : t.fnResp = s.fnResp
  inFlight : t.inFlight = s.inFlight
  cmdSlot : t.cmdSlot = s.cmdSlot
  cmdResult : t.cmdResult = s.cmdResult

theorem transact_surroundings (frame : List Byte) (n : Nat) (s : State) : SameSurroundings s (s.transact frame n) := by
  constructor <;> rfl

theorem transact_registers (frame : List Byte) (n : Nat) (s : State) : SameRegisters s (s.transact frame n) := by
  constructor <;> rfl

/-- A state-step whose command is answered completes with what its rule makes of the command's result (R140). -/
theorem stepCompletes_of_result {α : Type} {i : Instr} {s q : State} {frame : List Byte} {n : Nat}
    {after : Except CoreError α → State → State} {r x : Except CoreError α} {evs : List Event}
    (hexec : exec i s = runTransaction frame n (after r) s) (answered : ¬ Unanswered n s) (result : r = x)
    (registers : SameRegisters q (after x (s.transact frame n)))
    (trace : (after x (s.transact frame n)).trace = s.trace ++ evs)
    (surroundings : SameSurroundings s (after x (s.transact frame n))) : StepCompletes i s q evs := by
  subst result
  obtain ⟨port, rst, queue, resp, flight, slot, kept⟩ := surroundings
  exact ⟨_, hexec.trans (runTransaction_done answered), registers, trace, ⟨port, rst, queue, resp⟩, flight, slot, kept⟩

/-- The status record an error is taken with is the event of R149. -/
theorem status_statusOf (code : BitVec 3) (e : CoreError) : Event.status (statusOf code e) = errorEvent e code := by
  cases e <;> rfl

theorem withRecord_eq (e : CoreError) (code : BitVec 3) (s : State) : withRecord e code s =
    { s with errKind := errKindOf e, errExpected := errExpectedOf e, errActual := errActualOf e, errState := code } := by
  cases e <;> rfl

/-- Taking an error records it; then to HALTED with FLAGS.FATAL in the startup phase, to WAITING in the polling phase (R177, R178). -/
theorem takeError_registers (e : CoreError) (code : BitVec 3) {s u : State} (same : SameRegisters s u) :
    SameRegisters (if isStartup code then startupError e code s else pollingError e code s) (u.takeError e code) := by
  obtain ⟨⟩ := same
  cases phase : isStartup code with
  | true =>
    have both : s.flags ||| 0b0100#4 ||| 0b1000#4 = s.flags ||| 0b1100#4 := BitVec.or_assoc ..
    constructor <;> simp [startupError, withRecord_eq, *]
  | false => constructor <;> simp [pollingError, withRecord_eq, *]

/-- A state-step whose command fails completes with the error taken, after the command's transactions and the STATUS of R149. The machine
`u` the error is taken in holds the registers of `q`. -/
theorem stepCompletes_of_error {α : Type} {i : Instr} {s q u : State} {frame : List Byte} {n : Nat}
    {after : Except CoreError α → State → State} {r : Except CoreError α} {evs : List Event} {e : CoreError}
    {code : BitVec 3} (hexec : exec i s = runTransaction frame n (after r) s) (answered : ¬ Unanswered n s)
    (result : r = .error e) (taken : after (.error e) (s.transact frame n) = u.takeError e code)
    (registers : SameRegisters q u) (trace : u.trace = s.trace ++ evs) (surroundings : SameSurroundings s u) :
    StepCompletes i s (if isStartup code then startupError e code q else pollingError e code q)
      (evs ++ [errorEvent e code]) := by
  refine stepCompletes_of_result hexec answered result ?_ ?_ ?_ <;> rw [taken]
  · exact takeError_registers e code registers
  · rw [takeError_trace, trace, status_statusOf, List.append_assoc]
  · obtain ⟨⟩ := surroundings
    constructor <;> simp [*]

/-- The same, for a state-step that takes the error in the machine its transactions leave. -/
theorem stepCompletes_of_plainError {α : Type} {i : Instr} {s : State} {frame : List Byte} {n : Nat}
    {after : Except CoreError α → State → State} {r : Except CoreError α} {e : CoreError} {code : BitVec 3}
    (hexec : exec i s = runTransaction frame n (after r) s) (answered : ¬ Unanswered n s) (result : r = .error e)
    (taken : ∀ u, after (.error e) u = u.takeError e code) :
    StepCompletes i s (if isStartup code then startupError e code s else pollingError e code s)
      (xferEvents frame n s ++ [errorEvent e code]) :=
  stepCompletes_of_error hexec answered result (taken _) (transact_registers ..) (transact_trace ..)
    (transact_surroundings ..)

/-! ### The startup phase -/

/-- Settles O33: GET_INTERVAL answers the interval, which is recorded and compared, or its error is taken. -/
theorem initIntervalComparesTheSensorsInterval : Obligations.InitIntervalComparesTheSensorsInterval := by
  intro s evs
  constructor
  · intro v h
    obtain ⟨answered, result, rfl, -⟩ := wordResult_of_answers (frame := getIntervalFrame) h
    refine stepCompletes_of_result (after := initIntervalAfter) rfl answered result ?_
      (by simp [initIntervalAfter]) (by constructor <;> simp [initIntervalAfter])
    constructor
    case state => rfl
    all_goals simp [initIntervalAfter]
  · intro e h
    obtain ⟨answered, result, rfl, -⟩ := wordResult_of_fails (frame := getIntervalFrame) h
    exact stepCompletes_of_plainError (after := initIntervalAfter) (code := 4#3) rfl answered result fun _ => rfl

/-- A sequencer step that leads to INIT_SET from elsewhere is INIT_INTERVAL's, with an interval that differs from the configured one. -/
theorem initSet_entered {s t : State} (turn : SequencerTurn s) (hs : step s = .next t) (hne : s.state ≠ 5#3)
    (ht : t.state = 5#3) : s.state = 4#3 ∧ ∃ v, t.devInterval = some v ∧ v ≠ t.cfgInterval := by
  have rows : ∀ a b : BitVec 3, Successor a b → a ≠ 5#3 → b = 5#3 → a = 4#3 := by
    unfold Successor
    decide
  have h4 : s.state = 4#3 := rows _ _ (successor_of_step turn.rst hs) hne ht
  refine ⟨h4, ?_⟩
  cases stateStep_of_step turn hs with
  | initInterval _ _ next =>
    have config := (configurationIsWrittenByResetOnly s t turn.rst hs).2.1
    subst next
    obtain ⟨-, h | ⟨-, v, hv, hd⟩ | h⟩ := initIntervalAfter_moves (wordResult s) (s.transact getIntervalFrame 3)
    · simp [h] at ht
    · exact ⟨v, hv, config ▸ hd⟩
    · simp [h] at ht
  | initSet h | initOffset h | checkingReady h | reading h | waiting h | stalled h | halted h => simp [h4] at h
  | hung _ _ _ _ next => simp [next, h4] at ht

/-- Settles O34: the frame sent is packed from CFG_INTERVAL, and nothing is read back. -/
theorem initSetWritesTheConfiguredInterval : Obligations.InitSetWritesTheConfiguredInterval := by
  intro s hi lo evs hcfg
  rw [← cmd5_append, ← hcfg]
  refine ⟨fun h => ?_, fun h => ?_, fun t => initSet_entered⟩
  · obtain ⟨answered, result, rfl, -⟩ := sendResult_of_succeeds (frame := setIntervalFrame s.cfgInterval) h
    exact stepCompletes_of_result (after := initSetAfter) rfl answered result (by constructor <;> simp [initSetAfter])
      (by simp [initSetAfter]) (by constructor <;> simp [initSetAfter])
  · obtain ⟨answered, result, rfl, -⟩ := sendResult_of_fails (frame := setIntervalFrame s.cfgInterval) h
    exact stepCompletes_of_plainError (after := initSetAfter) (code := 5#3) rfl answered result fun _ => rfl

/-- Settles O35: GET_TEMP_OFFSET answers the offset, which is recorded, or its error is taken. -/
theorem initOffsetRecordsTheOffset : Obligations.InitOffsetRecordsTheOffset := by
  intro s evs
  constructor
  · intro v h
    obtain ⟨answered, result, rfl, -⟩ := wordResult_of_answers (frame := getTempOffsetFrame) h
    exact stepCompletes_of_result (after := initOffsetAfter) rfl answered result (by constructor <;> simp [initOffsetAfter])
      (by simp [initOffsetAfter]) (by constructor <;> simp [initOffsetAfter])
  · intro e h
    obtain ⟨answered, result, rfl, -⟩ := wordResult_of_fails (frame := getTempOffsetFrame) h
    exact stepCompletes_of_plainError (after := initOffsetAfter) (code := 6#3) rfl answered result fun _ => rfl

/-! ### The polling phase -/

/-- Settles O36: 1 is the ready word, every other word takes the not-ready path, and an error is taken with READY and ANOMALY cleared. -/
theorem checkingReadyClassifiesTheAnswer : Obligations.CheckingReadyClassifiesTheAnswer := by
  intro s evs
  refine ⟨fun h => ?_, fun h => ?_, fun v h h0 h1 => ?_, fun e h => ?_⟩
  · obtain ⟨answered, result, rfl, -⟩ := wordResult_of_answers (frame := getReadyFrame) h
    refine stepCompletes_of_result (after := checkingReadyAfter) rfl answered result ?_ ?_ ?_ <;>
      rw [checkingReadyAfter_one]
    · constructor <;> simp
    · simp
    · constructor <;> simp
  · obtain ⟨answered, result, rfl, -⟩ := wordResult_of_answers (frame := getReadyFrame) h
    refine stepCompletes_of_result (after := checkingReadyAfter) rfl answered result ?_ ?_ ?_ <;>
      rw [checkingReadyAfter_zero]
    · constructor <;> simp
    · simp
    · constructor <;> simp
  · obtain ⟨answered, result, rfl, -⟩ := wordResult_of_answers (frame := getReadyFrame) h
    refine stepCompletes_of_result (after := checkingReadyAfter) rfl answered result ?_ ?_ ?_ <;>
      rw [checkingReadyAfter_anomaly h0 h1]
    · constructor <;> simp
    · simp
    · constructor <;> simp
  · obtain ⟨answered, result, rfl, -⟩ := wordResult_of_fails (frame := getReadyFrame) h
    exact stepCompletes_of_error (after := checkingReadyAfter) (code := 0#3) rfl answered result rfl
      (by constructor <;> simp [BitVec.and_assoc]) (by simp) (by constructor <;> simp)

/-- Settles O37: the three patterns are stored and presented once, or the error is taken. -/
theorem readingPresentsTheMeasurement : Obligations.ReadingPresentsTheMeasurement := by
  intro s evs
  constructor
  · intro c t h hm
    obtain ⟨answered, result, rfl, -⟩ := measResult_of_answers hm
    exact stepCompletes_of_result (after := readingAfter) rfl answered result (by constructor <;> simp [readingAfter])
      (by simp [readingAfter]) (by constructor <;> simp [readingAfter])
  · intro e h
    obtain ⟨answered, result, rfl, -⟩ := measResult_of_fails h
    exact stepCompletes_of_plainError (after := readingAfter) (code := 1#3) rfl answered result fun _ => rfl

/-- Settles O39: the frame sent is packed from CFG_PRESSURE, and STALL is cleared only when it is accepted. -/
theorem stalledTriggersContinuousMeasurement : Obligations.StalledTriggersContinuousMeasurement := by
  intro s hi lo evs hcfg
  rw [← cmd5_append, ← hcfg]
  refine ⟨fun h => ?_, fun h => ?_⟩
  · obtain ⟨answered, result, rfl, -⟩ := sendResult_of_succeeds (frame := triggerContFrame s.cfgPressure) h
    exact stepCompletes_of_result (after := stalledAfter) rfl answered result (by constructor <;> simp [stalledAfter])
      (by simp [stalledAfter]) (by constructor <;> simp [stalledAfter])
  · obtain ⟨answered, result, rfl, -⟩ := sendResult_of_fails (frame := triggerContFrame s.cfgPressure) h
    exact stepCompletes_of_plainError (after := stalledAfter) (code := 3#3) rfl answered result fun _ => rfl

end Sys2Proof.Machine
end

section
/-! PROOF. Where triggers and measurements appear: the frames the state-steps write, and what each presents after its command. -/

namespace Sys2Proof.Machine

/-- What a state-step from `s` may add to the history: a `00 10` write in STALLED only, a MEAS in READING only, for six valid units, and
nothing at all in WAITING and HALTED (R162). -/
structure LawfulEvents (s : State) (evs : List Event) : Prop where
  trigger : ∀ a rest ok, Event.write a (0x00#8 :: 0x10#8 :: rest) ok ∈ evs → s.state = 3#3
  meas : ∀ c x h, Event.meas c x h ∈ evs → s.state = 1#3 ∧ ∃ evs', MeasAnswers s c x h evs'
  silent : s.state = 7#3 ∨ s.state = 2#3 → evs = []

theorem lawfulEvents_nil (s : State) : LawfulEvents s [] := ⟨by simp, by simp, fun _ => rfl⟩

/-- A state whose state-step runs the command of this frame and read length: a trigger in STALLED only, none in WAITING and HALTED. -/
structure MayRun (s : State) (frame : List Byte) (n : Nat) : Prop where
  trigger : ∀ rest, frame = 0x00#8 :: 0x10#8 :: rest → s.state = 3#3
  active : ¬ (s.state = 7#3 ∨ s.state = 2#3)
  legal : LegalCommand frame n

/-- The command a state-step runs (R141 to R147). -/
theorem mayRun_of_command {s : State} {frame : List Byte} {n : Nat}
    (h : (s.state = 4#3 ∧ frame = getIntervalFrame ∧ n = 3) ∨
      (s.state = 5#3 ∧ frame = setIntervalFrame s.cfgInterval ∧ n = 0) ∨
      (s.state = 6#3 ∧ frame = getTempOffsetFrame ∧ n = 3) ∨ (s.state = 0#3 ∧ frame = getReadyFrame ∧ n = 3) ∨
      (s.state = 1#3 ∧ frame = readMeasFrame ∧ n = 18) ∨
      (s.state = 3#3 ∧ frame = triggerContFrame s.cfgPressure ∧ n = 0)) : MayRun s frame n := by
  rcases h with ⟨h, rfl, rfl⟩ | ⟨h, rfl, rfl⟩ | ⟨h, rfl, rfl⟩ | ⟨h, rfl, rfl⟩ | ⟨h, rfl, rfl⟩ | ⟨h, rfl, rfl⟩
  · exact ⟨by simp [getIntervalFrame, cmd2], by simp [h], legalCommand_cmd2 _ _ (.inl rfl)⟩
  · exact ⟨by simp [setIntervalFrame, cmd5], by simp [h], legalCommand_cmd5 _ _ _⟩
  · exact ⟨by simp [getTempOffsetFrame, cmd2], by simp [h], legalCommand_cmd2 _ _ (.inl rfl)⟩
  · exact ⟨by simp [getReadyFrame, cmd2], by simp [h], legalCommand_cmd2 _ _ (.inl rfl)⟩
  · exact ⟨by simp [readMeasFrame, cmd2], by simp [h], legalCommand_cmd2 _ _ (.inr rfl)⟩
  · exact ⟨fun _ _ => h, by simp [h], legalCommand_cmd5 _ _ _⟩

/-- The transactions of a command that may run, then presentations whose MEAS are the measured ones. -/
theorem lawfulEvents_of_command {s : State} {frame : List Byte} {n : Nat} {notes : List Event} (run : MayRun s frame n)
    (presented : ∀ e ∈ notes, Presented e)
    (meas : ∀ c x h, Event.meas c x h ∈ notes → s.state = 1#3 ∧ ∃ evs', MeasAnswers s c x h evs') :
    LawfulEvents s (xferEvents frame n s ++ notes) where
  trigger a rest ok he :=
    run.trigger rest
      (write_mem_xferEvents ((List.mem_append.1 he).resolve_right (write_notMem_of_presented presented))).2.symm
  meas c x h he := meas c x h ((List.mem_append.1 he).resolve_left (by unfold xferEvents; split <;> simp))
  silent hs := absurd hs run.active

/-! ### What a state-step presents -/

/-- From `s` to `t` the history grew by status records only. -/
def StatusesOnly (s t : State) : Prop := ∃ notes, t.trace = s.trace ++ notes ∧ ∀ e ∈ notes, ∃ r, e = .status r

theorem statusesOnly_of_none {s t : State} (h : t.trace = s.trace) : StatusesOnly s t := ⟨[], by simp [h], by simp⟩

theorem statusesOnly_of_one {s t : State} {r : Status} (h : t.trace = s.trace ++ [.status r]) : StatusesOnly s t :=
  ⟨_, h, by simp⟩

theorem takeError_statusesOnly (e : CoreError) (code : BitVec 3) (s : State) : StatusesOnly s (s.takeError e code) :=
  statusesOnly_of_one (takeError_trace s e code)

theorem initIntervalAfter_statusesOnly (r : Except CoreError U16) (s : State) :
    StatusesOnly s (initIntervalAfter r s) := by
  cases r with
  | error e => exact takeError_statusesOnly e _ s
  | ok v => exact statusesOnly_of_none rfl

theorem initSetAfter_statusesOnly (r : Except CoreError Unit) (s : State) : StatusesOnly s (initSetAfter r s) := by
  cases r with
  | error e => exact takeError_statusesOnly e _ s
  | ok v => exact statusesOnly_of_none rfl

theorem initOffsetAfter_statusesOnly (r : Except CoreError U16) (s : State) : StatusesOnly s (initOffsetAfter r s) := by
  cases r with
  | error e => exact takeError_statusesOnly e _ s
  | ok v => exact statusesOnly_of_none rfl

theorem checkingReadyAfter_statusesOnly (r : Except CoreError U16) (s : State) :
    StatusesOnly s (checkingReadyAfter r s) := by
  cases r with
  | error e => exact statusesOnly_of_one (by simp [checkingReadyAfter]; rfl)
  | ok v =>
    by_cases h1 : v = 1#16
    · exact statusesOnly_of_none (by rw [h1, checkingReadyAfter_one])
    by_cases h0 : v = 0#16
    · exact statusesOnly_of_none (by rw [h0, checkingReadyAfter_zero, notReady_trace])
    · exact statusesOnly_of_one (by rw [checkingReadyAfter_anomaly h0 h1, notReady_trace, emit_trace])

theorem stalledAfter_statusesOnly (r : Except CoreError Unit) (s : State) : StatusesOnly s (stalledAfter r s) := by
  cases r with
  | error e => exact takeError_statusesOnly e _ s
  | ok v => exact statusesOnly_of_none rfl

/-- A state-step that presents status records only adds lawful events. -/
theorem lawfulEvents_of_statusesOnly {s t : State} {frame : List Byte} {n : Nat} (run : MayRun s frame n)
    (after : StatusesOnly (s.transact frame n) t) : ∃ evs, t.trace = s.trace ++ evs ∧ LawfulEvents s evs := by
  obtain ⟨notes, trace, statuses⟩ := after
  refine ⟨xferEvents frame n s ++ notes, by simp [trace], lawfulEvents_of_command run (fun e he => ?_) ?_⟩
  · obtain ⟨r, rfl⟩ := statuses e he
    exact .status r
  · intro c x h he
    obtain ⟨r, hr⟩ := statuses _ he
    cases hr

/-- READING's MEAS, if it presents one, is what READ_MEAS answered (R147). -/
theorem lawfulEvents_of_reading {s : State} (h : s.state = 1#3) (run : MayRun s readMeasFrame 18) :
    ∃ evs, (readingAfter (measResult s) (s.transact readMeasFrame 18)).trace = s.trace ++ evs ∧ LawfulEvents s evs := by
  cases result : measResult s with
  | error e => exact lawfulEvents_of_statusesOnly run (takeError_statusesOnly e _ _)
  | ok m =>
    refine ⟨_, List.append_assoc .., lawfulEvents_of_command run (notes := [.meas m.1 m.2.1 m.2.2]) ?_ ?_⟩
    · simpa using Presented.meas ..
    · intro c x y he
      cases List.mem_singleton.1 he
      exact ⟨h, answers_of_measResult result⟩

theorem lawfulEvents_of_stateStep {s t : State} (hs : StateStep s t) :
    ∃ evs, t.trace = s.trace ++ evs ∧ LawfulEvents s evs := by
  cases hs with
  | initInterval h _ next =>
    exact lawfulEvents_of_statusesOnly (mayRun_of_command (by simp [h]))
      (next ▸ initIntervalAfter_statusesOnly ..)
  | initSet h _ next =>
    exact lawfulEvents_of_statusesOnly (mayRun_of_command (by simp [h]))
      (next ▸ initSetAfter_statusesOnly ..)
  | initOffset h _ next =>
    exact lawfulEvents_of_statusesOnly (mayRun_of_command (by simp [h]))
      (next ▸ initOffsetAfter_statusesOnly ..)
  | checkingReady h _ next =>
    exact lawfulEvents_of_statusesOnly (mayRun_of_command (by simp [h]))
      (next ▸ checkingReadyAfter_statusesOnly ..)
  | reading h _ next =>
    exact next ▸ lawfulEvents_of_reading h (mayRun_of_command (by simp [h]))
  | stalled h _ next =>
    exact lawfulEvents_of_statusesOnly (mayRun_of_command (by simp [h]))
      (next ▸ stalledAfter_statusesOnly ..)
  | waiting | halted =>
    subst_vars
    exact ⟨[], (List.append_nil _).symm, lawfulEvents_nil _⟩
  | hung frame n command unanswered next =>
    have run := mayRun_of_command command
    subst next
    obtain ⟨-, -, ⟨-, -, trace, -⟩ | ⟨-, -, -, trace, -⟩⟩ := hang_leaves (frame := frame) unanswered
    · exact ⟨[], by rw [trace, List.append_nil], lawfulEvents_nil s⟩
    · refine ⟨_, trace, ⟨fun a rest ok he => ?_, by simp, fun hs => absurd hs run.active⟩⟩
      cases List.mem_singleton.1 he
      exact run.trigger _ rfl

/-- READING is entered from elsewhere only after GET_READY answered exactly 1 (R144). -/
theorem reading_entered {s t : State} (turn : SequencerTurn s) (hs : step s = .next t) (hne : s.state ≠ 1#3)
    (ht : t.state = 1#3) : ∃ evs, WordAnswers [0x02#8, 0x02#8] s 1#16 evs := by
  have rows : ∀ a b : BitVec 3, Successor a b → a ≠ 1#3 → b = 1#3 → a = 0#3 := by
    unfold Successor
    decide
  have h0 : s.state = 0#3 := rows _ _ (successor_of_step turn.rst hs) hne ht
  cases stateStep_of_step turn hs with
  | checkingReady _ _ next =>
    subst next
    obtain ⟨result, -⟩ | ⟨h, -⟩ := checkingReadyAfter_moves (wordResult s) (s.transact getReadyFrame 3)
    · exact answers_of_wordResult _ result
    · simp [h] at ht
  | initInterval h | initSet h | initOffset h | reading h | waiting h | stalled h | halted h => simp [h0] at h
  | hung _ _ _ _ next => simp [next, h0] at ht

/-- Settles O55: the events of each state-step are lawful, and READING has one way in. -/
theorem triggersAndMeasurementsAppearWhereTheRulesSay : Obligations.TriggersAndMeasurementsAppearWhereTheRulesSay := by
  intro s t turn hs
  obtain ⟨evs, trace, trigger, meas, silent⟩ := lawfulEvents_of_stateStep (stateStep_of_step turn hs)
  exact ⟨evs, trace, trigger, meas, silent, reading_entered turn hs⟩

end Sys2Proof.Machine
end

section
/-! PROOF. The invariant. Its clauses are of two kinds: those that do not name STATE, and those that say what holds while STATE has a given
code. The first are kept by every write; the second are proved of the code a step enters, from those of the code it leaves. -/

namespace Sys2Proof.Machine

/-! ### The two kinds of clauses -/

/-- The clauses of the invariant that do not name STATE. -/
structure Common (s : State) : Prop where
  addr : s.cfgAddr = 0x61#7
  elapsed : s.cfgPollElapsed ≠ 0#16
  stallBound : s.stall.toNat ≤ s.cfgInterval.toNat + s.cfgPollElapsed.toNat
  oneOutcome : ¬ (s.flags.getLsbD 0 = true ∧ s.flags.getLsbD 1 = true)
  errKind : s.errKind ≠ 3#2
  noError : s.errKind = 0#2 →
    s.errExpected = 0#8 ∧ s.errActual = 0#8 ∧ s.errState = 0#3 ∧ s.flags.getLsbD 2 = false
  crcRecord : s.errKind = 1#2 → s.errExpected ≠ s.errActual
  ioRecord : s.errKind = 2#2 → s.errExpected = 0#8 ∧ s.errActual = 0#8
  errState : s.errState ≠ 2#3 ∧ s.errState ≠ 7#3
  measTogether : s.measCo2.isSome = s.measT.isSome ∧ s.measT.isSome = s.measRh.isSome
  flightLegal : ∀ x, s.inFlight = some x → LegalTransaction s x

/-- The clauses of the invariant that name STATE, by its code (R29, R141 to R148, R161). -/
inductive Phase (s : State) : BitVec 3 → Prop where
  | checkingReady (running : s.flags.getLsbD 3 = false) (dev : s.devInterval.isSome = true)
      (offset : s.tempOffset.isSome = true) (low : s.stall.toNat ≤ s.cfgInterval.toNat) : Phase s 0#3
  | reading (running : s.flags.getLsbD 3 = false) (dev : s.devInterval.isSome = true)
      (offset : s.tempOffset.isSome = true) (low : s.stall.toNat ≤ s.cfgInterval.toNat)
      (ready : s.flags.getLsbD 0 = true) : Phase s 1#3
  | waiting (running : s.flags.getLsbD 3 = false) (dev : s.devInterval.isSome = true)
      (offset : s.tempOffset.isSome = true) : Phase s 2#3
  | stalled (running : s.flags.getLsbD 3 = false) (dev : s.devInterval.isSome = true)
      (offset : s.tempOffset.isSome = true) (high : s.cfgInterval.toNat < s.stall.toNat) : Phase s 3#3
  | initInterval (running : s.flags.getLsbD 3 = false) (zero : s.stall = 0#17) : Phase s 4#3
  | initSet (running : s.flags.getLsbD 3 = false) (zero : s.stall = 0#17) (dev : s.devInterval.isSome = true)
      (differs : s.devInterval ≠ some s.cfgInterval) : Phase s 5#3
  | initOffset (running : s.flags.getLsbD 3 = false) (zero : s.stall = 0#17) (dev : s.devInterval.isSome = true) :
      Phase s 6#3
  | halted (fatal : s.flags.getLsbD 3 = true) (zero : s.stall = 0#17) : Phase s 7#3

theorem common_of_inv {s : State} (h : Inv s) : Common s := { h with }

theorem phase_of_inv {s : State} (h : Inv s) {code : BitVec 3} (hs : s.state = code) : Phase s code := by
  subst hs
  have running (h7 : s.state ≠ 7#3) : s.flags.getLsbD 3 = false := Bool.eq_false_iff.2 (h.fatal.not.2 h7)
  generalize hs : s.state = code at *
  rcases state_codes code with rfl | rfl | rfl | rfl | rfl | rfl | rfl | rfl
  · exact .initInterval (running (by decide)) (h.stallZero (by simp [hs]))
  · exact .initSet (running (by decide)) (h.stallZero (by simp [hs])) (h.devKnown (by simp [hs]) (by simp [hs]))
      (h.alignNeeded hs)
  · exact .initOffset (running (by decide)) (h.stallZero (by simp [hs])) (h.devKnown (by simp [hs]) (by simp [hs]))
  · exact .checkingReady (running (by decide)) (h.devKnown (by simp [hs]) (by simp [hs]))
      (h.offsetKnown (by simp [hs])) (h.stallLow (.inl hs))
  · exact .reading (running (by decide)) (h.devKnown (by simp [hs]) (by simp [hs])) (h.offsetKnown (by simp [hs]))
      (h.stallLow (.inr hs)) (h.readingReady hs)
  · exact .waiting (running (by decide)) (h.devKnown (by simp [hs]) (by simp [hs])) (h.offsetKnown (by simp [hs]))
  · exact .stalled (running (by decide)) (h.devKnown (by simp [hs]) (by simp [hs])) (h.offsetKnown (by simp [hs]))
      (h.stallHigh hs)
  · exact .halted (h.fatal.2 hs) (h.stallZero (by simp [hs]))

theorem inv_of_phase {s : State} (common : Common s) {code : BitVec 3} (hs : s.state = code) (phase : Phase s code) :
    Inv s := by
  refine
    { common with
      stallLow := ?_, stallHigh := ?_, stallZero := ?_, fatal := ?_, readingReady := ?_, devKnown := ?_,
      alignNeeded := ?_, offsetKnown := ?_ } <;>
  cases phase <;> simp [-BitVec.getLsbD_eq_getElem, *]

/-! ### Steps that write no register -/

/-- The invariant is about the registers and the transaction the core is blocked in. -/
theorem inv_of_sameRegisters {s t : State} (h : Inv s) (same : SameRegisters s t)
    (flight : ∀ x, t.inFlight = some x → LegalTransaction t x) : Inv t := by
  cases s
  cases t
  obtain ⟨⟩ := same
  dsimp only at *
  subst_vars
  exact { h with flightLegal := flight }

theorem inv_of_sameFlight {s t : State} (h : Inv s) (same : SameRegisters s t) (flight : t.inFlight = s.inFlight) :
    Inv t :=
  inv_of_sameRegisters h same fun x hx => by
    have legal := h.flightLegal x (flight ▸ hx)
    cases x <;> exact ⟨legal.1.trans same.cfgAddr.symm, legal.2⟩

theorem inv_transact {s : State} (h : Inv s) (frame : List Byte) (n : Nat) : Inv (s.transact frame n) :=
  inv_of_sameFlight h (transact_registers frame n s) rfl

/-- A blocked command leaves a legal transaction in flight (R56, R211). -/
theorem inv_hang {s : State} (h : Inv s) {frame : List Byte} {n : Nat} (legal : LegalCommand frame n)
    (unanswered : Unanswered n s) : Inv (s.hang frame n) :=
  inv_of_sameRegisters h (hang_leaves unanswered).1 (hang_legal unanswered legal.frame legal.read)

/-! ### Reset -/

/-- A launch with a legal configuration (R40, R200). -/
theorem inv_resetRegisters {s : State} (addr : s.cfgPort.addr = Config.addr) (elapsed : s.cfgPort.pollElapsed ≠ 0#16) :
    Inv s.resetRegisters :=
  have common : Common s.resetRegisters :=
    { common_of_inv resetStateSatisfiesInvariant with
      addr := addr
      elapsed := elapsed
      stallBound := Nat.zero_le _
      flightLegal := fun _ h => absurd h (by simp) }
  inv_of_phase common rfl (.initInterval (by simp) rfl)

/-! ### Taking an error -/

/-- The record of an error a command can raise (R30, R106). -/
theorem record_of_raisable {e : CoreError} (h : Raisable e) :
    errKindOf e ≠ 3#2 ∧ errKindOf e ≠ 0#2 ∧ (errKindOf e = 1#2 → errExpectedOf e ≠ errActualOf e) ∧
    (errKindOf e = 2#2 → errExpectedOf e = 0#8 ∧ errActualOf e = 0#8) := by
  cases e with
  | crcMismatch x y => exact ⟨by simp [errKindOf], by simp [errKindOf], fun _ => h, by simp [errKindOf]⟩
  | ioError => exact ⟨by simp [errKindOf], by simp [errKindOf], by simp [errKindOf], fun _ => ⟨rfl, rfl⟩⟩

/-- The bits of FLAGS an error leaves (R149, R178). -/
theorem takeError_flags_bits (e : CoreError) (code : BitVec 3) (s : State) :
    (s.takeError e code).flags.getLsbD 0 = s.flags.getLsbD 0 ∧
    (s.takeError e code).flags.getLsbD 1 = s.flags.getLsbD 1 ∧
    (s.takeError e code).flags.getLsbD 3 = (isStartup code || s.flags.getLsbD 3) := by
  cases phase : isStartup code <;> simp [phase, flagErr, flagFatal]

/-- An error is recorded as R30 says, in a state-step that runs a command. -/
theorem common_takeError {s : State} (h : Common s) {e : CoreError} (raisable : Raisable e) {code : BitVec 3}
    (h2 : code ≠ 2#3) (h7 : code ≠ 7#3) : Common (s.takeError e code) :=
  have ⟨kind, error, crcRecord, ioRecord⟩ := record_of_raisable raisable
  have ⟨ready, anomaly, _⟩ := takeError_flags_bits e code s
  { h with
    oneOutcome := by rw [ready, anomaly]; exact h.oneOutcome
    errKind := kind
    noError := fun h0 => absurd h0 error
    crcRecord := crcRecord
    ioRecord := ioRecord
    errState := ⟨h2, h7⟩ }

/-- An error taken in a state-step that runs a command leads to HALTED from the startup phase, to WAITING from the polling phase (R177,
R178). -/
theorem inv_takeError {s : State} (h : Inv s) {e : CoreError} (raisable : Raisable e) {code : BitVec 3}
    (hs : s.state = code) (h2 : code ≠ 2#3) (h7 : code ≠ 7#3) : Inv (s.takeError e code) := by
  have common := common_takeError (common_of_inv h) raisable h2 h7
  have fatal := (takeError_flags_bits e code s).2.2
  cases phase_of_inv h hs with
  | initInterval _ zero | initSet _ zero _ _ | initOffset _ zero _ => exact inv_of_phase common (by simp) (.halted fatal (by simpa using zero))
  | checkingReady running dev offset _ | reading running dev offset _ _ | stalled running dev offset _ =>
    exact inv_of_phase common (by simp) (.waiting (fatal.trans running) (by simpa using dev) (by simpa using offset))
  | waiting => exact absurd rfl h2
  | halted => exact absurd rfl h7

/-! ### The state-steps that succeed -/

/-- A write of FLAGS that keeps READY and ANOMALY apart and clears ERR. -/
theorem common_writeFlags {s : State} (h : Common s) {f : BitVec 4}
    (oneOutcome : ¬ (f.getLsbD 0 = true ∧ f.getLsbD 1 = true)) (err : f.getLsbD 2 = false) :
    Common { s with flags := f } :=
  { h with
    oneOutcome := oneOutcome
    noError := fun h0 =>
      have ⟨expected, actual, state, _⟩ := h.noError h0
      ⟨expected, actual, state, err⟩ }

theorem common_clearErr {s : State} (h : Common s) : Common (s.setFlag flagErr false) :=
  common_writeFlags h (by simpa using h.oneOutcome) (by simp)

theorem clearErr_fatal (s : State) : (s.setFlag flagErr false).flags.getLsbD 3 = s.flags.getLsbD 3 := by simp

/-- INIT_INTERVAL's answer is recorded, and INIT_SET entered only when it differs (R141, R142). -/
theorem inv_initIntervalAfter_ok {s : State} (h : Inv s) (hs : s.state = 4#3) (v : U16) :
    Inv (initIntervalAfter (.ok v) s) := by
  cases phase_of_inv h hs with
  | initInterval running zero =>
    have common : Common (initIntervalAfter (.ok v) s) := { common_clearErr (common_of_inv h) with }
    have running := (clearErr_fatal s).trans running
    by_cases hv : v = s.cfgInterval
    · exact inv_of_phase common (if_pos hv) (.initOffset running zero rfl)
    · exact inv_of_phase common (if_neg hv) (.initSet running zero rfl fun he => hv (Option.some.inj he))

theorem inv_initSetAfter_ok {s : State} (h : Inv s) (hs : s.state = 5#3) : Inv (initSetAfter (.ok ()) s) := by
  cases phase_of_inv h hs with
  | initSet running zero dev =>
    exact inv_of_phase { common_clearErr (common_of_inv h) with } rfl
      (.initOffset ((clearErr_fatal s).trans running) zero dev)

theorem inv_initOffsetAfter_ok {s : State} (h : Inv s) (hs : s.state = 6#3) (v : U16) :
    Inv (initOffsetAfter (.ok v) s) := by
  cases phase_of_inv h hs with
  | initOffset running zero dev =>
    have low : s.stall.toNat ≤ s.cfgInterval.toNat := by simp [zero]
    exact inv_of_phase { common_clearErr (common_of_inv h) with } rfl
      (.checkingReady ((clearErr_fatal s).trans running) dev rfl low)

/-- The not-ready path: STALL had not passed the interval, so the sum is below the bound of R160. -/
theorem inv_notReady {s : State} (h : Inv s) (hs : s.state = 0#3) {f : BitVec 4} {evs : List Event}
    (fatal : f.getLsbD 3 = s.flags.getLsbD 3) (oneOutcome : ¬ (f.getLsbD 0 = true ∧ f.getLsbD 1 = true))
    (err : f.getLsbD 2 = false) : Inv (notReady { s with flags := f, trace := evs }) := by
  cases phase_of_inv h hs with
  | checkingReady running dev offset low =>
    have sum := stall_add_toNat low
    have bound : (s.stall + s.cfgPollElapsed.setWidth 17).toNat ≤ s.cfgInterval.toNat + s.cfgPollElapsed.toNat := by omega
    exact inv_of_phase { common_writeFlags (common_of_inv h) oneOutcome err with stallBound := bound } rfl
      (.waiting (fatal.trans running) dev offset)

/-- CHECKING_READY's three ways out (R144). -/
theorem inv_checkingReadyAfter_ok {s : State} (h : Inv s) (hs : s.state = 0#3) (v : U16) :
    Inv (checkingReadyAfter (.ok v) s) := by
  by_cases h1 : v = 1#16
  · have common := common_writeFlags (common_of_inv h) (f := s.flags &&& 0b1000#4 ||| 0b0001#4) (by simp) (by simp)
    rw [h1, checkingReadyAfter_one]
    cases phase_of_inv h hs with
    | checkingReady running dev offset low =>
      exact inv_of_phase { common with } rfl (.reading (by simpa using running) dev offset low (by simp))
  by_cases h0 : v = 0#16
  · rw [h0, checkingReadyAfter_zero]
    exact inv_notReady h hs (by simp) (by simp) (by simp)
  · rw [checkingReadyAfter_anomaly h0 h1]
    exact inv_notReady h hs (by simp) (by simp) (by simp)

/-- CHECKING_READY's error is taken with READY and ANOMALY cleared (R144; log entry 29). -/
theorem inv_clearReady {s : State} (h : Inv s) (hs : s.state = 0#3) :
    Inv ((s.setFlag flagReady false).setFlag flagAnomaly false) := by
  cases phase_of_inv h hs with
  | checkingReady running dev offset low =>
    have common : Common ((s.setFlag flagReady false).setFlag flagAnomaly false) :=
      { common_of_inv h with
        oneOutcome := by simp
        noError := by simpa using h.noError }
    exact inv_of_phase common hs (.checkingReady (by simpa using running) dev offset low)

theorem inv_readingAfter_ok {s : State} (h : Inv s) (hs : s.state = 1#3) (c x y : U32) :
    Inv (readingAfter (.ok (c, x, y)) s) := by
  cases phase_of_inv h hs with
  | reading running dev offset =>
    exact inv_of_phase { common_clearErr (common_of_inv h) with stallBound := Nat.zero_le _, measTogether := ⟨rfl, rfl⟩ } rfl
      (.checkingReady ((clearErr_fatal s).trans running) dev offset (Nat.zero_le _))

theorem inv_stalledAfter_ok {s : State} (h : Inv s) (hs : s.state = 3#3) : Inv (stalledAfter (.ok ()) s) := by
  cases phase_of_inv h hs with
  | stalled running dev offset =>
    exact inv_of_phase { common_clearErr (common_of_inv h) with stallBound := Nat.zero_le _ } rfl
      (.checkingReady ((clearErr_fatal s).trans running) dev offset (Nat.zero_le _))

/-- WAITING compares STALL with the interval, which is what the state it enters asks for (R145, R161). -/
theorem inv_waiting {s : State} (h : Inv s) (hs : s.state = 2#3) : Inv { s with
    state := if s.stall ≤ s.cfgInterval.setWidth 17 then Code.checkingReady else Code.stalled } := by
  cases phase_of_inv h hs with
  | waiting running dev offset =>
    by_cases hle : s.stall.toNat ≤ s.cfgInterval.toNat
    · exact inv_of_phase { common_of_inv h with } (if_pos ((stall_le_interval s).2 hle))
        (.checkingReady running dev offset hle)
    · exact inv_of_phase { common_of_inv h with } (if_neg (mt (stall_le_interval s).1 hle))
        (.stalled running dev offset (not_le.1 hle))

/-! ### Every step -/

/-- A state-step keeps the invariant: its command's result is stored, or the error it can raise is taken. -/
theorem inv_stateStep {s t : State} (h : Inv s) (hst : StateStep s t) : Inv t := by
  cases hst with
  | initInterval hs _ next =>
    have hu := inv_transact h getIntervalFrame 3
    subst next
    cases r : wordResult s with
    | ok v => exact inv_initIntervalAfter_ok hu hs v
    | error e => exact inv_takeError hu (wordResult_raisable r) hs (by decide) (by decide)
  | initSet hs _ next =>
    have hu := inv_transact h (setIntervalFrame s.cfgInterval) 0
    subst next
    cases r : sendResult s with
    | ok v => exact inv_initSetAfter_ok hu hs
    | error e => exact inv_takeError hu (sendResult_raisable r) hs (by decide) (by decide)
  | initOffset hs _ next =>
    have hu := inv_transact h getTempOffsetFrame 3
    subst next
    cases r : wordResult s with
    | ok v => exact inv_initOffsetAfter_ok hu hs v
    | error e => exact inv_takeError hu (wordResult_raisable r) hs (by decide) (by decide)
  | checkingReady hs _ next =>
    have hu := inv_transact h getReadyFrame 3
    subst next
    cases r : wordResult s with
    | ok v => exact inv_checkingReadyAfter_ok hu hs v
    | error e => exact inv_takeError (inv_clearReady hu hs) (wordResult_raisable r) hs (by decide) (by decide)
  | reading hs _ next =>
    have hu := inv_transact h readMeasFrame 18
    subst next
    cases r : measResult s with
    | ok m => exact inv_readingAfter_ok hu hs m.1 m.2.1 m.2.2
    | error e => exact inv_takeError hu (measResult_raisable r) hs (by decide) (by decide)
  | stalled hs _ next =>
    have hu := inv_transact h (triggerContFrame s.cfgPressure) 0
    subst next
    cases r : sendResult s with
    | ok v => exact inv_stalledAfter_ok hu hs
    | error e => exact inv_takeError hu (sendResult_raisable r) hs (by decide) (by decide)
  | waiting hs next => exact next ▸ inv_waiting h hs
  | halted _ next => exact next ▸ h
  | hung frame n command unanswered next =>
    exact next ▸ inv_hang h (mayRun_of_command command).legal unanswered

/-- Settles O52: a reset begins the invariant again, the port and a command run by itself write no register, and the sequencer keeps it. -/
theorem everyStepKeepsInvariant : Obligations.EveryStepKeepsInvariant := by
  intro s t h hs
  cases stepKind_of_step hs with
  | reset _ addr elapsed next => exact next ▸ inv_resetRegisters addr elapsed
  | port _ _ _ _ r next =>
    subst next
    exact inv_of_sameFlight h (by constructor <;> rfl) rfl
  | command _ _ _ frame n shape next =>
    rcases next with ⟨unanswered, rfl⟩ | ⟨-, r, rfl⟩
    · refine inv_hang h ?_ unanswered
      rcases shape with ⟨rfl, hi, lo, a, rfl⟩ | ⟨hn, hi, lo, rfl⟩
      · exact legalCommand_cmd5 hi lo a
      · exact legalCommand_cmd2 hi lo hn
    · exact inv_of_sameFlight h (by constructor <;> rfl) rfl
  | sequencer _ hst => exact inv_stateStep h hst

/-! ### The stall counter -/

/-- Settles O53: CHECKING_READY begins with STALL at most the interval, so both summands are below 2^16. -/
theorem stallAdditionNeverOverflows : Obligations.StallAdditionNeverOverflows := by
  intro s t v evs h turn hs answers hv hstep
  obtain ⟨answered, result, -⟩ := wordResult_of_answers (frame := getReadyFrame) answers
  have next : step s = .next (checkingReadyAfter (.ok v) (s.transact getReadyFrame 3)) := by
    rw [step_sequencer turn, hs, ← result]
    exact runTransaction_done answered
  cases next.symm.trans hstep
  obtain ⟨ready, -⟩ | ⟨-, stall | ⟨⟨e, error⟩, -⟩⟩ := checkingReadyAfter_moves (.ok v) (s.transact getReadyFrame 3)
  · exact absurd (Except.ok.inj ready) hv
  · have low := h.stallLow (.inl hs)
    have sum := stall_add_toNat low
    rw [stall, transact_stall, transact_cfgPollElapsed, sum]
    have := s.cfgInterval.isLt
    have := s.cfgPollElapsed.isLt
    exact ⟨rfl, by omega⟩
  · cases error

end Sys2Proof.Machine
end

section
/-! PROOF. A transaction that is never answered, and reset: an operation runs at most one command, so it is blocked in that command's
transaction or in none. -/

namespace Sys2Proof.Machine

/-! ### What an operation leaves around the registers -/

theorem takeError_surroundings (e : CoreError) (code : BitVec 3) (s : State) : SameSurroundings s (s.takeError e code) := by
  constructor <;> rfl

theorem initIntervalAfter_surroundings (r : Except CoreError U16) (s : State) :
    SameSurroundings s (initIntervalAfter r s) := by
  cases r with
  | error e => exact takeError_surroundings e _ s
  | ok v => constructor <;> rfl

theorem initSetAfter_surroundings (r : Except CoreError Unit) (s : State) : SameSurroundings s (initSetAfter r s) := by
  cases r with
  | error e => exact takeError_surroundings e _ s
  | ok v => constructor <;> rfl

theorem initOffsetAfter_surroundings (r : Except CoreError U16) (s : State) :
    SameSurroundings s (initOffsetAfter r s) := by
  cases r with
  | error e => exact takeError_surroundings e _ s
  | ok v => constructor <;> rfl

theorem checkingReadyAfter_surroundings (r : Except CoreError U16) (s : State) :
    SameSurroundings s (checkingReadyAfter r s) := by
  cases r with
  | error e => constructor <;> simp [checkingReadyAfter]
  | ok v =>
    by_cases h1 : v = 1#16
    · rw [h1, checkingReadyAfter_one]
      constructor <;> simp
    by_cases h0 : v = 0#16
    · rw [h0, checkingReadyAfter_zero]
      constructor <;> simp
    · rw [checkingReadyAfter_anomaly h0 h1]
      constructor <;> simp

theorem stalledAfter_surroundings (r : Except CoreError Unit) (s : State) : SameSurroundings s (stalledAfter r s) := by
  cases r with
  | error e => exact takeError_surroundings e _ s
  | ok v => constructor <;> rfl

theorem readingAfter_surroundings (r : Except CoreError (U32 × U32 × U32)) (s : State) :
    SameSurroundings s (readingAfter r s) := by
  cases r with
  | error e => exact takeError_surroundings e _ s
  | ok m => constructor <;> rfl

/-- What an operation is: an answer at the function port, a move of STATE, or a command followed by what keeps the transaction the core is
blocked in. -/
inductive OperationKind (i : Instr) (s : State) : Prop where
  | answers (r : Except CoreError U32) (silent : readLength i = none) (meaning : exec i s = .next (s.fnRespond r))
  | moves (code : BitVec 3) (silent : readLength i = none) (meaning : exec i s = .next { s with state := code })
  | runsCommand (frame : List Byte) (n : Nat) (after : State → State) (reads : readLength i = some n)
      (meaning : exec i s = runTransaction frame n after s) (keeps : ∀ u, (after u).inFlight = u.inFlight)

/-- Every operation is of one of the three kinds. -/
theorem operationKind (i : Instr) (s : State) : OperationKind i s := by
  cases i with
  | crc8 | packWord | unpackWord | unpackBytes | unpackFloat => exact .answers _ rfl rfl
  | waiting | halted => exact .moves _ rfl rfl
  | getReady | getInterval | setInterval | getTempOffset | triggerCont | readMeas =>
    exact .runsCommand _ _ _ rfl rfl fun _ => rfl
  | checkingReady => exact .runsCommand _ _ _ rfl rfl fun u => (checkingReadyAfter_surroundings _ u).inFlight
  | reading => exact .runsCommand _ _ _ rfl rfl fun u => (readingAfter_surroundings _ u).inFlight
  | stalled => exact .runsCommand _ _ _ rfl rfl fun u => (stalledAfter_surroundings _ u).inFlight
  | initInterval => exact .runsCommand _ _ _ rfl rfl fun u => (initIntervalAfter_surroundings _ u).inFlight
  | initSet => exact .runsCommand _ _ _ rfl rfl fun u => (initSetAfter_surroundings _ u).inFlight
  | initOffset => exact .runsCommand _ _ _ rfl rfl fun u => (initOffsetAfter_surroundings _ u).inFlight

/-! ### What blocks the core -/

/-- An operation whose command is never answered is blocked in it (R211). -/
theorem hangs_of_unanswered {i : Instr} {s : State} {frame : List Byte} {n : Nat} {after : State → State}
    (h : Unanswered n s) (hexec : exec i s = runTransaction frame n after s) : Hangs frame n i s := by
  obtain ⟨registers, ports, blocked⟩ := hang_leaves (frame := frame) h
  exact ⟨_, hexec.trans (runTransaction_hung h), registers, ports, hang_cmdResult s frame n, hang_trWrites s frame n,
    blocked.imp_right And.right⟩

/-- No operation faults: it has a next state, blocked or not. -/
theorem exec_ne_fault (i : Instr) (s : State) (r : Fault) : exec i s ≠ .fault r := by
  cases operationKind i s with
  | answers _ _ meaning | moves _ _ meaning | runsCommand _ _ _ _ meaning => simp [meaning, runTransaction]

/-- An operation whose command is answered, or that runs none, keeps the transaction the core is blocked in. -/
theorem inFlight_of_answered {i : Instr} {s t : State} (answered : ∀ n, readLength i = some n → ¬ Unanswered n s)
    (h : exec i s = .next t) : t.inFlight = s.inFlight := by
  cases operationKind i s with
  | answers r _ meaning =>
    cases meaning.symm.trans h
    exact fnRespond_inFlight s r
  | moves code _ meaning =>
    cases meaning.symm.trans h
    rfl
  | runsCommand frame n after reads meaning keeps =>
    cases (meaning.trans (runTransaction_done (answered n reads))).symm.trans h
    exact keeps _

theorem takeReset_ne_fault (s : State) (r : Fault) : takeReset s ≠ .fault r := by
  unfold takeReset
  split
  · simp
  · split <;> simp

/-- A step faults exactly while a transaction is unanswered and no reset waits (R211). -/
theorem step_eq_fault_iff (s : State) (r : Fault) : step s = .fault r ↔ s.rst = false ∧ s.inFlight ≠ none := by
  cases hr : s.rst with
  | true => simp [step_reset hr, takeReset_ne_fault]
  | false =>
    by_cases hf : s.inFlight = none
    · rw [step_eq hr hf]
      cases decode (fetchContainer s) <;> simp [exec_ne_fault, hf]
    · simp [step_blocked hr hf, hf]

/-- Settles O32: every command and every state-step that runs one hangs alike, and nothing else blocks the core. -/
theorem anUnansweredTransactionBlocksTheCore : Obligations.AnUnansweredTransactionBlocksTheCore := by
  refine fun s => ⟨fun h => ?_, fun h => ?_, fun hi lo h => ?_, fun i => exec_ne_fault i s,
    fun i t => inFlight_of_answered, step_eq_fault_iff s⟩
  · exact ⟨hangs_of_unanswered h rfl, hangs_of_unanswered h rfl, hangs_of_unanswered h rfl, hangs_of_unanswered h rfl,
      hangs_of_unanswered h rfl, hangs_of_unanswered h rfl⟩
  · exact ⟨hangs_of_unanswered h rfl, hangs_of_unanswered h rfl⟩
  · simp only [← cmd5_append]
    refine ⟨fun c => ⟨hangs_of_unanswered h rfl, hangs_of_unanswered h rfl⟩, fun hcfg => ?_, fun hcfg => ?_⟩
    · rw [← hcfg]
      exact hangs_of_unanswered h rfl
    · rw [← hcfg]
      exact hangs_of_unanswered h rfl

/-! ### Reset -/

/-- Settles O49: a legal configuration passes both checks of the launch, and the reset writes every register. -/
theorem resetGivesEveryRegisterItsValue : Obligations.ResetGivesEveryRegisterItsValue := by
  intro s hr addr elapsed
  have next : step s = .next s.resetRegisters := by simp [step_reset hr, takeReset, addr, elapsed]
  exact ⟨_, next, by simp⟩

end Sys2Proof.Machine
end

section
/-! PROOF. Headlines over runs of the polling phase: rounds of CHECKING_READY and WAITING, each of which uses one of the units the transport
answers the checks with. -/

namespace Sys2Proof.Machine

/-- The core is in CHECKING_READY, and the transport will answer the next checks with the units `us`. -/
structure Polling (us : List WireUnit) (ws : List WriteAnswer) (rs : List ReadAnswer) (s : State) : Prop where
  turn : SequencerTurn s
  state : s.state = 0#3
  writes : s.trWrites = List.replicate us.length .ok ++ ws
  reads : s.trReads = us.map (fun u => .bytes [u.b0, u.b1, u.b2]) ++ rs

/-- One check has led from `s` to WAITING, and the units `us` are still to come. -/
structure Checked (us : List WireUnit) (ws : List WriteAnswer) (rs : List ReadAnswer) (s t : State) : Prop where
  step : step s = .next t
  turn : SequencerTurn t
  state : t.state = 2#3
  interval : t.cfgInterval = s.cfgInterval
  elapsed : t.cfgPollElapsed = s.cfgPollElapsed
  again : Polling us ws rs { t with state := 0#3 }

/-- The not-ready word on the wire (R215). -/
abbrev notReadyUnit : WireUnit := ⟨0x00#8, 0x00#8, 0x81#8⟩

theorem turn_of_surroundings {s t : State} (turn : SequencerTurn s) (same : SameSurroundings s t) : SequencerTurn t :=
  ⟨same.rst.trans turn.rst, same.inFlight.trans turn.inFlight, same.cmdSlot.trans turn.cmdSlot,
    same.fnQueue.trans turn.fnQueue⟩

section
variable {s t : State} {u : WireUnit} {us : List WireUnit} {ws : List WriteAnswer} {rs : List ReadAnswer}

/-! ### One check -/

/-- The check gets the first unit, by a write and a read that are both answered (R121). -/
theorem check_answered (h : Polling (u :: us) ws rs s) :
    ¬ Unanswered 3 s ∧ wordResult s = unpackWord u ∧ readIssued 3 s = true := by
  have hw : trWriteAnswer s = .ok := by simp [trWriteAnswer, h.writes, List.replicate_succ]
  have hr : trReadAnswer 3 s = .bytes [u.b0, u.b1, u.b2] := by simp [trReadAnswer, h.reads, exactLength]
  obtain ⟨result, issued, -⟩ := xfer_answered getReadyFrame (n := 3) (by decide) hw hr
  refine ⟨by simp [Unanswered, hw, hr], ?_, issued⟩
  simp only [wordResult, result]
  rfl

/-- A unit that does not lead to READING leads to WAITING, and the next check gets the next unit. -/
theorem checked_of_polling (h : Polling (u :: us) ws rs s)
    (ht : t = checkingReadyAfter (unpackWord u) (s.transact getReadyFrame 3)) (waiting : t.state = 2#3) :
    Checked us ws rs s t := by
  obtain ⟨answered, result, issued⟩ := check_answered h
  have next : step s = .next t := by
    rw [step_sequencer h.turn, h.state, ht, ← result]
    exact runTransaction_done answered
  have turn : SequencerTurn t := by
    rw [ht]
    exact turn_of_surroundings (turn_of_surroundings h.turn (transact_surroundings getReadyFrame 3 s))
      (checkingReadyAfter_surroundings ..)
  obtain ⟨-, interval, -, elapsed⟩ := configurationIsWrittenByResetOnly s t h.turn.rst next
  have same : PresentsOnly (s.transact getReadyFrame 3) t := ht ▸ checkingReadyAfter_presentsOnly ..
  refine ⟨next, turn, waiting, interval, elapsed, ?_⟩
  exact
    { turn := ⟨turn.rst, turn.inFlight, turn.cmdSlot, turn.fnQueue⟩
      state := rfl
      writes := same.trWrites.trans (by simp [h.writes, List.replicate_succ])
      reads := same.trReads.trans (by simp [h.reads, issued]) }

/-- A unit with a bad CRC leaves STALL as it was (R144, R213). -/
theorem checked_of_bad (h : Polling (u :: us) ws rs s) (bad : ¬ UnitValid u) :
    ∃ t, Checked us ws rs s t ∧ t.stall = s.stall := by
  have error := unpackWord_error bad
  exact ⟨_, checked_of_polling h rfl (by rw [error]; rfl), by simp [error, checkingReadyAfter]⟩

/-- The not-ready word advances STALL, without overflow where STALL has not passed the interval (R144, R160). -/
theorem checked_of_notReady (h : Polling (notReadyUnit :: us) ws rs s) (low : s.stall.toNat ≤ s.cfgInterval.toNat) :
    ∃ t, Checked us ws rs s t ∧ t.stall.toNat = s.stall.toNat + s.cfgPollElapsed.toNat := by
  have valid : UnitValid notReadyUnit := by
    obtain ⟨-, -, zeroBytes, -⟩ := crc8RequestAnswersTheChecksum
    exact zeroBytes
  have zero : unpackWord notReadyUnit = .ok 0#16 := unpackWord_ok valid
  refine ⟨_, checked_of_polling h rfl ?_, ?_⟩ <;> rw [zero, checkingReadyAfter_zero]
  · rfl
  · exact stall_add_toNat low

/-! ### One round -/

theorem step_checked (c : Checked us ws rs s t) : step t = exec .waiting t := by
  rw [step_sequencer c.turn, c.state]
  rfl

/-- While STALL has not passed the interval, WAITING leads back to CHECKING_READY (R145). -/
theorem runs_round_low (c : Checked us ws rs s t) (low : t.stall.toNat ≤ t.cfgInterval.toNat) (k : Nat) :
    runs (k + 2) s = runs k { t with state := 0#3 } :=
  (runs_next c.step).trans (runs_next ((step_checked c).trans ((waitingComparesStallWithTheInterval t).1 low)))

/-- Once STALL has passed the interval, WAITING leads to STALLED (R145). -/
theorem runs_round_high (c : Checked us ws rs s t) (high : t.cfgInterval.toNat < t.stall.toNat) :
    runs 2 s = .next { t with state := 3#3 } :=
  (runs_next c.step).trans (runs_next ((step_checked c).trans ((waitingComparesStallWithTheInterval t).2 high)))

/-! ### Bad CRCs -/

/-- As long as the answers are bad units, the core alternates with STALL unchanged. -/
theorem alternates_of_bad {bad : List WireUnit} (h : Polling bad ws rs s) (low : s.stall.toNat ≤ s.cfgInterval.toNat)
    (hbad : ∀ u ∈ bad, ¬ UnitValid u) : ∀ j ≤ 2 * bad.length, ∃ t, runs j s = .next t ∧
      t.state = (if j % 2 = 0 then 0#3 else 2#3) ∧ t.stall = s.stall ∧ SequencerTurn t := by
  induction bad generalizing s with
  | nil =>
    intro j hj
    obtain rfl : j = 0 := by simpa using hj
    exact ⟨s, rfl, h.state, rfl, h.turn⟩
  | cons u us ih =>
    obtain ⟨hu, hus⟩ := List.forall_mem_cons.1 hbad
    obtain ⟨c, hc, stall⟩ := checked_of_bad h hu
    have low : c.stall.toNat ≤ c.cfgInterval.toNat := by rwa [stall, hc.interval]
    intro j hj
    match j with
    | 0 => exact ⟨s, rfl, h.state, rfl, h.turn⟩
    | 1 => exact ⟨c, runs_next hc.step, hc.state, stall, hc.turn⟩
    | j + 2 =>
      rw [List.length_cons] at hj
      obtain ⟨t, run, state, same, turn⟩ := ih hc.again low hus j (by omega)
      exact ⟨t, (runs_round_low hc low j).trans run, by simpa using state, same.trans stall, turn⟩

/-! ### Not-ready words -/

/-- From CHECKING_READY with any STALL that has not passed the interval: `k` not-ready words, the last of which is the first to carry STALL
past it, lead to STALLED in `2k` steps and no fewer. -/
theorem stalled_of_notReady (k : Nat) (h : Polling (List.replicate k notReadyUnit) ws rs s)
    (low : s.stall.toNat ≤ s.cfgInterval.toNat)
    (reached : s.cfgInterval.toNat < s.stall.toNat + k * s.cfgPollElapsed.toNat)
    (notBefore : ∀ j < k, s.stall.toNat + j * s.cfgPollElapsed.toNat ≤ s.cfgInterval.toNat) :
    (∃ t, runs (2 * k) s = .next t ∧ t.state = 3#3 ∧ t.stall.toNat = s.stall.toNat + k * s.cfgPollElapsed.toNat) ∧
    (∀ j < 2 * k, ∃ t, runs j s = .next t ∧ t.state ≠ 3#3) := by
  induction k generalizing s with
  | zero => omega
  | succ k ih =>
    obtain ⟨c, hc, sum⟩ := checked_of_notReady h low
    have start : ∃ t, runs 0 s = .next t ∧ t.state ≠ 3#3 := ⟨s, rfl, by simp [h.state]⟩
    have half : ∃ t, runs 1 s = .next t ∧ t.state ≠ 3#3 := ⟨c, runs_next hc.step, by simp [hc.state]⟩
    have product (j : Nat) : (j + 1) * s.cfgPollElapsed.toNat = j * s.cfgPollElapsed.toNat + s.cfgPollElapsed.toNat :=
      Nat.succ_mul ..
    rcases Nat.eq_zero_or_pos k with rfl | more
    · have high : c.cfgInterval.toNat < c.stall.toNat := by
        rw [sum, hc.interval]
        omega
      refine ⟨⟨_, runs_round_high hc high, rfl, by simpa using sum⟩, fun j hj => ?_⟩
      interval_cases j
      · exact start
      · exact half
    · have low : c.stall.toNat ≤ c.cfgInterval.toNat := by
        have := notBefore 1 (by omega)
        rw [sum, hc.interval]
        omega
      have reached : c.cfgInterval.toNat < c.stall.toNat + k * c.cfgPollElapsed.toNat := by
        rw [sum, hc.interval, hc.elapsed]
        have := product k
        omega
      have notBefore (j : Nat) (hj : j < k) : c.stall.toNat + j * c.cfgPollElapsed.toNat ≤ c.cfgInterval.toNat := by
        rw [sum, hc.interval, hc.elapsed]
        have := notBefore (j + 1) (by omega)
        have := product j
        omega
      obtain ⟨⟨t, run, state, total⟩, before⟩ := ih hc.again low reached notBefore
      refine ⟨⟨t, (runs_round_low hc low (2 * k)).trans run, state, ?_⟩, fun j hj => ?_⟩
      · rw [total, product, hc.elapsed, sum]
        omega
      · match j with
        | 0 => exact start
        | 1 => exact half
        | j + 2 =>
          obtain ⟨t, run, state⟩ := before j (by omega)
          exact ⟨t, (runs_round_low hc low j).trans run, state⟩

end

/-! ### The statements -/

/-- Settles O57: STALL begins at 0, so it is `j` times CFG_POLL_ELAPSED after `j` rounds. -/
theorem stalledIsReachedAfterTheSmallestK : Obligations.StalledIsReachedAfterTheSmallestK := by
  intro s k ws rs turn hs zero reached notBefore writes reads
  have polling : Polling (List.replicate k notReadyUnit) ws rs s :=
    ⟨turn, hs, by simpa using writes, by simpa using reads⟩
  have stall : s.stall.toNat = 0 := by simp [zero]
  simpa [stall] using stalled_of_notReady k polling (by simp [stall]) (by simpa [stall] using reached)
    (by simpa [stall] using notBefore)

/-- Settles O58: each bad answer costs one round, which leads back to CHECKING_READY. -/
theorem badCrcsNeverAdvanceStall : Obligations.BadCrcsNeverAdvanceStall :=
  fun _ _ _ _ turn hs low hbad writes reads => alternates_of_bad ⟨turn, hs, writes, reads⟩ low hbad

end Sys2Proof.Machine
end
